-- ==== Sys2Proof/Word.lean ====
section
/-! DEFINITION. The word types of the core: an 8-bit byte and a 16-bit word (spec/00_scope.md R9). -/

namespace Sys2Proof

/-- One byte: a general register, a memory byte, an instruction byte (00_scope.md R9). -/
abbrev Byte := BitVec 8

/-- One 16-bit word: a register pair, SP, PC, an address (00_scope.md R9). -/
abbrev Word := BitVec 16

end Sys2Proof
end

