-- ==== Sys2Proof/Config.lean ====
section
/-! DEFINITION. What is fixed for this hardware (spec/00_scope.md R9) and the parameters the spec leaves open
(R10): the reset constants, the interrupt vectors, the size of the address space, the cycle unit.
No instruction of the spec leaves a value undefined, so there is no free value here. -/

namespace Sys2Proof.Config

/-- PC after reset, "post-boot-ROM entry point" (10_state.md R45). -/
def resetPC : Word := 0x0100

/-- SP after reset (10_state.md R45, D1). -/
def resetSP : Word := 0xFFFE

/-- Number of bytes of the address space (20_memory.md R70). -/
def addressSpace : Nat := 65536

/-- Vector of interrupt request 0; request k is entered 8·k above it (60_exceptions.md R313). -/
def vectorBase : Word := 0x0040

/-- High byte of the page the LDH forms reach (49_loads.md R281). -/
def highPage : Byte := 0xFF

/-- The unit in which `cycle_debt` counts: the open parameter CYCLE_UNIT (00_scope.md R10, D15). -/
inductive CycleUnit where
  /-- one bus access slot -/
  | machine
  /-- one clock period, a quarter of a machine cycle -/
  | clock
deriving DecidableEq, Repr

/-- How many units one M-cycle lasts (70_reset_and_hazards.md R351). -/
def CycleUnit.perMachineCycle : CycleUnit → Nat
  | .machine => 1
  | .clock => 4

end Sys2Proof.Config
end

