-- ==== Sys2Proof/Machine/State.lean ====
section
/-! DEFINITION. The state of the machine as plain data (spec/10_state.md R20), with the memory behind the bus
(spec/20_memory.md R70) and the parameter BUS, the environment's inputs (spec/00_scope.md R8) and what the last step
reports; the faults and refusals; and the state right after reset (R45). -/

namespace Sys2Proof.Machine

/-- The four stored bits of F (R22): its bits 3 to 0 have no storage and read 0 (D6). -/
structure Flags where
  /-- Zero, bit 7 -/
  z : Bool
  /-- Subtract, bit 6 -/
  n : Bool
  /-- HalfCarry, bit 5 -/
  h : Bool
  /-- Carry, bit 4 -/
  c : Bool
deriving DecidableEq, Repr

/-- A value for everything reset leaves open: the parameter RESET_GPR (00_scope.md R10; 10_state.md R46). -/
structure ResetGpr where
  a : Byte
  b : Byte
  c : Byte
  d : Byte
  e : Byte
  h : Byte
  l : Byte
  f : Flags
deriving DecidableEq, Repr

/-- What a read of an address returns and what a write to it does: the parameter BUS (00_scope.md R10; 20_memory.md
R81; D17). DESIGN CHOICE, log entry 4: the three ways in which it can differ. -/
inductive RegionKind where
  /-- plain memory, the default: a read returns the byte held, a write replaces it -/
  | ram
  /-- read-only: a read returns the byte held, a write is issued and changes nothing (20_memory.md R61) -/
  | rom
  /-- a read returns what the environment answers (R81); a write is handed to the environment and changes no byte
  of memory, unless the environment changes some before the next step -/
  | device
deriving DecidableEq, Repr

/-- A part of the address space, from `first` to `last` inclusive, and its kind. -/
structure Region where
  first : Word
  last  : Word
  kind  : RegionKind
deriving DecidableEq, Repr

/-- What the environment does before and at one step: it may assert `reset` (with the draw of RESET_GPR that
goes with it, 70_reset_and_hazards.md R340), change bytes of memory since the last step (20_memory.md R81), it
drives the five request lines that the step samples (60_exceptions.md R310), and it answers the step's reads of
`device` addresses, one byte a read, in order (R81). DESIGN CHOICE, log entries 3, 4 and 5. -/
structure Input where
  reset   : Option ResetGpr
  pokes   : List (Word × Byte)
  irq     : BitVec 5
  answers : List Byte
deriving DecidableEq, Repr

/-- The environment doing nothing. -/
def Input.quiet : Input := { reset := none, pokes := [], irq := 0, answers := [] }

/-- One byte access on the bus (00_scope.md R8): the address and the byte read or written. -/
inductive BusAccess where
  | read  (addr : Word) (data : Byte)
  | write (addr : Word) (data : Byte)
deriving DecidableEq, Repr

/-- The contents of the fault latch: the byte without an instruction and the address it was fetched at (R42). -/
structure UnknownOpcode where
  byte : Byte
  addr : Word
deriving DecidableEq, Repr

/-- The reasons a step stops the machine. -/
inductive Fault where
  /-- Raised by every step of a core whose fault latch is set (60_exceptions.md R301, R305), until reset. DEDUCED,
  log entry 6. Safe: a stopped core gives the program no further meaning. -/
  | unknownOpcode (byte : Byte) (addr : Word)
  /-- band2's table-integrity failure (60_exceptions.md R306): raised by nothing. Safe: unreachable. -/
  | tableIntegrity
deriving DecidableEq, Repr

/-- The reasons an instruction has no meaning. -/
inductive Refusal where
  /-- Raised by an arm of `exec` whose instruction has no meaning yet; no arm of this model does. Safe. -/
  | notModelled (mnemonic : String)
deriving DecidableEq, Repr

/-- The whole machine. The fields down to `fault` are the core's (10_state.md R20); `mem`, `regions`, `irq`,
`inputs` and `answers` are the environment's side; `ack`, `bus`, `taken` and `cost` are what the last step reports.
The fields from `regions` on are the model's own (DESIGN CHOICE, log entries 3, 4 and 12). -/
structure State where
  /-- accumulator (R21) -/
  a : Byte
  b : Byte
  c : Byte
  d : Byte
  e : Byte
  h : Byte
  l : Byte
  /-- flag register, its four stored bits (R22) -/
  f : Flags
  /-- stack pointer (R25) -/
  sp : Word
  /-- program counter (R26) -/
  pc : Word
  /-- interrupt master enable (R30) -/
  ime : Bool
  /-- `interrupt_pending_enable`, EI's delayed enable (R31) -/
  pendingEnable : Bool
  /-- HALT or STOP asserted (R32) -/
  lowPower : Bool
  /-- the next opcode fetch does not advance (R40) -/
  haltBug : Bool
  /-- cycles still owed by the last instruction (R41) -/
  cycleDebt : Nat
  /-- the sticky fault latch (R42) -/
  fault : Option UnknownOpcode
  /-- memory: address and byte, addresses rising, no entry equal to what an unlisted address reads as (20_memory.md R70) -/
  mem : List Host.Cell
  /-- the parameter BUS: the parts of the address space that are not plain memory (00_scope.md R10); no step changes
  it -/
  regions : List Region
  /-- the sample of `irq_lines` of the step in progress (60_exceptions.md R310) -/
  irq : BitVec 5
  /-- the environment's inputs for the steps to come, one record a step; beyond the list it is quiet -/
  inputs : List Input
  /-- the environment's answers still to come to the reads of `device` addresses of the step in progress -/
  answers : List Byte
  /-- the request acknowledged by the last step, `int_ack(k)` (60_exceptions.md R314) -/
  ack : Option (Fin 5)
  /-- the byte accesses of the last step, first to last (20_memory.md R72) -/
  bus : List BusAccess
  /-- whether the last instruction took its transfer (70_reset_and_hazards.md R352) -/
  taken : Bool
  /-- cost of the last step in M-cycles (70_reset_and_hazards.md R353, R354) -/
  cost : Nat
deriving DecidableEq, Repr

/-- What one step of the machine, or one instruction, answers. -/
abbrev Result := Host.Outcome State Fault Refusal

/-- DESIGN CHOICE, log entry 1: the values of RESET_GPR at `State.reset`, all zero; the spec leaves them open
(10_state.md R46). -/
def ResetGpr.zero : ResetGpr :=
  { a := 0, b := 0, c := 0, d := 0, e := 0, h := 0, l := 0, f := { z := false, n := false, h := false, c := false } }

/-- The state after reset for given values of RESET_GPR (10_state.md R45): nothing in memory yet, every address
plain memory (the default BUS, D17), no input listed. -/
def State.resetWith (g : ResetGpr) : State :=
  { a := g.a, b := g.b, c := g.c, d := g.d, e := g.e, h := g.h, l := g.l, f := g.f,
    sp := Config.resetSP, pc := Config.resetPC,
    ime := false, pendingEnable := false, lowPower := false, haltBug := false, cycleDebt := 0, fault := none,
    mem := [], regions := [], irq := 0, inputs := [], answers := [], ack := none, bus := [], taken := true, cost := 0 }

/-- The machine right after reset (10_state.md R45; 70_reset_and_hazards.md R340). -/
def State.reset : State := State.resetWith ResetGpr.zero

end Sys2Proof.Machine
end

