-- ==== Sys2Proof/Machine/Bits.lean ====
section
/-! DEFINITION. Bits, bytes and words: halves of a word, sign extension (spec/00_scope.md section 7), and F as a
byte (spec/10_state.md R22, R27). -/

namespace Sys2Proof.Machine

/-- `v[15:8]`. -/
def hi (v : Word) : Byte := v.extractLsb' 8 8

/-- `v[7:0]`. -/
def lo (v : Word) : Byte := v.extractLsb' 0 8

/-- `hi ++ lo`: the first byte is the more significant one. -/
def join (hi lo : Byte) : Word := hi ++ lo

/-- `sext_16(v)`. -/
def sext (v : Byte) : Word := v.signExtend 16

/-- The byte F reads as: `(z << 7) | (n << 6) | (h << 5) | (c << 4)` (R27). -/
def Flags.toByte (f : Flags) : Byte :=
  BitVec.ofBool f.z ++ BitVec.ofBool f.n ++ BitVec.ofBool f.h ++ BitVec.ofBool f.c ++ 0#4

/-- What a write of the byte `v` stores in F: bits 7 to 4, the rest is discarded (R22, D6). -/
def Flags.ofByte (v : Byte) : Flags :=
  { z := v.getLsbD 7, n := v.getLsbD 6, h := v.getLsbD 5, c := v.getLsbD 4 }

end Sys2Proof.Machine
end

