-- ==== Sys2Proof/Machine/Flags.lean ====
section
/-! DEFINITION. Every result and flag computation of the instruction set as a function of its operand values:
the arithmetic helpers of spec/40_additive.md and spec/41_add16.md, the bitwise, increment, rotate, bit-test and
decimal computations of spec/42 to spec/46. Sums and differences are computed exactly and then narrowed. -/

namespace Sys2Proof.Machine

/-! ### Sums and differences -/

/-- `add8(a, b, cin)`: result, half carry, carry (R130). -/
def add8 (a b : Byte) (cin : Bool) : Byte × Bool × Bool :=
  let sum := a.toNat + b.toNat + cin.toNat
  (BitVec.ofNat 8 sum, decide (0xF < a.toNat % 16 + b.toNat % 16 + cin.toNat), decide (0xFF < sum))

/-- `sub8(a, b, cin)`: result, half borrow, borrow (R131). -/
def sub8 (a b : Byte) (cin : Bool) : Byte × Bool × Bool :=
  let diff : Int := (a.toNat : Int) - b.toNat - cin.toNat
  let nibbles : Int := ((a.toNat % 16 : Nat) : Int) - (b.toNat % 16 : Nat) - cin.toNat
  (BitVec.ofInt 8 diff, decide (nibbles < 0), decide (diff < 0))

/-- `add16(a, b)`: result, carry out of bit 11, carry out of bit 15 (R150). -/
def add16 (a b : Word) : Word × Bool × Bool :=
  let sum := a.toNat + b.toNat
  (BitVec.ofNat 16 sum, decide (0x0FFF < a.toNat % 4096 + b.toNat % 4096), decide (0xFFFF < sum))

/-- `addsp(e8)` for a given SP: the signed sum, with both flags from the unsigned sum of the low bytes (R152). -/
def addSp (sp : Word) (e8 : Byte) : Word × Bool × Bool :=
  let low := (lo sp).toNat
  (sp + sext e8, decide (0xF < low % 16 + e8.toNat % 16), decide (0xFF < low + e8.toNat))

/-! ### The accumulator operations (40_additive.md, 42_bitwise.md) -/

/-- Flags of a sum: Z from the result, N 0 (R132). -/
def sumFlags (r : Byte × Bool × Bool) : Flags := { z := r.1 == 0, n := false, h := r.2.1, c := r.2.2 }

/-- Flags of a difference: Z from the result, N 1 (R138). -/
def diffFlags (r : Byte × Bool × Bool) : Flags := { z := r.1 == 0, n := true, h := r.2.1, c := r.2.2 }

/-- Flags of a bitwise result (R160). -/
def logicFlags (r : Byte) (h : Bool) : Flags := { z := r == 0, n := false, h := h, c := false }

/-- What A and F become when the operation is applied to A, the operand and the flags before it. CP computes
SUB's flags and keeps A (R144). -/
def aluResult (op : AluOp) (a v : Byte) (f : Flags) : Byte × Flags :=
  match op with
  | .add => ((add8 a v false).1, sumFlags (add8 a v false))
  | .adc => ((add8 a v f.c).1, sumFlags (add8 a v f.c))
  | .sub => ((sub8 a v false).1, diffFlags (sub8 a v false))
  | .sbc => ((sub8 a v f.c).1, diffFlags (sub8 a v f.c))
  | .and => (a &&& v, logicFlags (a &&& v) true)
  | .xor => (a ^^^ v, logicFlags (a ^^^ v) false)
  | .or  => (a ||| v, logicFlags (a ||| v) false)
  | .cp  => (a, diffFlags (sub8 a v false))

/-! ### Increment and decrement (43_incdec.md) -/

/-- INC on a byte: C stays (R175). -/
def incResult (v : Byte) (f : Flags) : Byte × Flags :=
  (v + 1, { z := v + 1 == 0, n := false, h := v &&& 0xF == 0xF, c := f.c })

/-- DEC on a byte: C stays (R177). -/
def decResult (v : Byte) (f : Flags) : Byte × Flags :=
  (v - 1, { z := v - 1 == 0, n := true, h := v &&& 0xF == 0x0, c := f.c })

/-! ### Rotates and shifts (44_rotate_shift.md) -/

/-- The bit `b` in position 0 of a byte. -/
def bit0 (b : Bool) : Byte := if b then 0x01 else 0x00

/-- The bit `b` in position 7 of a byte. -/
def bit7 (b : Bool) : Byte := if b then 0x80 else 0x00

/-- `(v, cin) -> (res, cout)` for each operation of the table of R190. -/
def rotate (op : RotOp) (v : Byte) (cin : Bool) : Byte × Bool :=
  match op with
  | .rlc  => (v <<< 1 ||| bit0 (v.getLsbD 7), v.getLsbD 7)
  | .rrc  => (v >>> 1 ||| bit7 (v.getLsbD 0), v.getLsbD 0)
  | .rl   => (v <<< 1 ||| bit0 cin, v.getLsbD 7)
  | .rr   => (v >>> 1 ||| bit7 cin, v.getLsbD 0)
  | .sla  => (v <<< 1, v.getLsbD 7)
  | .sra  => (v >>> 1 ||| (v &&& 0x80), v.getLsbD 0)
  | .swap => (v <<< 4 ||| v >>> 4, false)
  | .srl  => (v >>> 1, v.getLsbD 0)

/-- Flags of the CB forms: Z from the result, N and H 0 (R190). -/
def rotFlags (r : Byte × Bool) : Flags := { z := r.1 == 0, n := false, h := false, c := r.2 }

/-- Flags of the accumulator forms: Z, N and H 0 (R190). -/
def accRotFlags (r : Byte × Bool) : Flags := { z := false, n := false, h := false, c := r.2 }

/-! ### Single bits (45_bitops.md) -/

/-- Flags of BIT: Z is the complement of the tested bit, C stays (R220). -/
def bitFlags (b : Fin 8) (v : Byte) (f : Flags) : Flags := { z := !v.getLsbD b.val, n := false, h := true, c := f.c }

/-- `v & ~(1 << b)` (R222). -/
def resBit (b : Fin 8) (v : Byte) : Byte := v &&& ~~~((1 : Byte) <<< b.val)

/-- `v | (1 << b)` (R224). -/
def setBit (b : Fin 8) (v : Byte) : Byte := v ||| (1 : Byte) <<< b.val

/-! ### DAA (46_daa_misc.md R230) -/

/-- Whether 0x06 is part of the correction. -/
def daaLow (a : Byte) (f : Flags) : Bool := f.h || (!f.n && decide (9 < a.toNat % 16))

/-- Whether 0x60 is part of the correction; it is also C afterwards. -/
def daaHigh (a : Byte) (f : Flags) : Bool := f.c || (!f.n && decide (0x99 < a.toNat))

def daaAdjust (a : Byte) (f : Flags) : Byte :=
  (if daaLow a f then 0x06 else 0x00) ||| (if daaHigh a f then 0x60 else 0x00)

/-- A and F after DAA: the correction is added after an addition, subtracted after a subtraction. -/
def daaResult (a : Byte) (f : Flags) : Byte × Flags :=
  let res := if f.n then a - daaAdjust a f else a + daaAdjust a f
  (res, { z := res == 0, n := f.n, h := false, c := daaHigh a f })

end Sys2Proof.Machine
end

