-- ==== Sys2Proof/Machine/Ops.lean ====
section
/-! DEFINITION. The named operations over memory, bus and stack (spec/20_memory.md), entering and leaving an
interrupt, raising the one synchronous exception (spec/60_exceptions.md), and the pieces of one step (R300). -/

namespace Sys2Proof.Machine

/-! ### Memory -/

/-- DESIGN CHOICE, log entry 2: what an address that memory does not list reads as. -/
def Memory.blank : Byte := 0x00

/-- The byte at an address. -/
def Memory.read : List Host.Cell → Nat → Byte
  | [], _ => Memory.blank
  | (k, v) :: m, a => if a = k then v else Memory.read m a

/-- Memory with one byte changed (20_memory.md R61), in canonical form again. -/
def Memory.write : List Host.Cell → Nat → Byte → List Host.Cell
  | [], a, v => if v = Memory.blank then [] else [(a, v)]
  | (k, w) :: m, a, v =>
    if a < k then (if v = Memory.blank then (k, w) :: m else (a, v) :: (k, w) :: m)
    else if a = k then (if v = Memory.blank then m else (a, v) :: m)
    else (k, w) :: Memory.write m a v

/-- Addresses strictly rising from `low` on, below the end of the space, and no entry blank. -/
def Memory.wfFrom : Nat → List Host.Cell → Bool
  | _, [] => true
  | low, (k, v) :: m =>
    decide (low ≤ k) && decide (k < Config.addressSpace) && decide (v ≠ Memory.blank) && Memory.wfFrom (k + 1) m

/-- The canonical form of memory: equal memories are equal lists. -/
def Memory.wf (m : List Host.Cell) : Bool := Memory.wfFrom 0 m

/-- Bytes the environment has changed, in the order it changed them (20_memory.md R81). -/
def Memory.writeAll (m : List Host.Cell) : List (Word × Byte) → List Host.Cell
  | [] => m
  | (a, v) :: ps => Memory.writeAll (Memory.write m a.toNat v) ps

/-! ### The parameter BUS (00_scope.md R10; 20_memory.md R81; log entry 4) -/

/-- The kind of an address: the first listed region that holds it decides; elsewhere it is plain memory, the
default (D17). -/
def Bus.kindIn : List Region → Word → RegionKind
  | [], _ => .ram
  | r :: rs, addr => if r.first ≤ addr ∧ addr ≤ r.last then r.kind else Bus.kindIn rs addr

def State.kindAt (s : State) (addr : Word) : RegionKind := Bus.kindIn s.regions addr

/-- The byte memory holds at an address, whoever may read it. -/
def State.held (s : State) (addr : Word) : Byte := Memory.read s.mem addr.toNat

/-- Memory after a write: only plain memory takes the byte. -/
def State.memAfter (s : State) (addr : Word) (v : Byte) : List Host.Cell :=
  match s.kindAt addr with
  | .ram => Memory.write s.mem addr.toNat v
  | .rom | .device => s.mem

/-- The environment's answers left after a read: a read of a device uses up one. -/
def State.answersAfter (s : State) (addr : Word) : List Byte :=
  match s.kindAt addr with
  | .ram | .rom => s.answers
  | .device => s.answers.tail

/-! ### The bus primitives (20_memory.md R60 to R66) -/

/-- The value `MemRead(addr, 1)` returns (R60): the byte held, or for a device the environment's next answer (the
byte held where it gives none). -/
def State.peek (s : State) (addr : Word) : Byte :=
  match s.kindAt addr with
  | .ram | .rom => s.held addr
  | .device => s.answers.headD (s.held addr)

/-- The access `MemRead(addr, 1)` issues; it changes no core state (R60). -/
def State.noteRead (s : State) (addr : Word) : State :=
  { s with bus := s.bus ++ [.read addr (s.peek addr)], answers := s.answersAfter addr }

/-- `MemWrite(addr, 1, v)`: issued whatever the environment makes of it (R61). -/
def State.store (s : State) (addr : Word) (v : Byte) : State :=
  { s with mem := s.memAfter addr v, bus := s.bus ++ [.write addr v] }

/-- The value `MemRead(addr, 2)` returns: low byte at `addr`, then high byte at `addr + 1` modulo 2^16 (R62). -/
def State.peek16 (s : State) (addr : Word) : Word := join ((s.noteRead addr).peek (addr + 1)) (s.peek addr)

/-- The two accesses of `MemRead(addr, 2)`, low address first (R62). -/
def State.noteRead16 (s : State) (addr : Word) : State := (s.noteRead addr).noteRead (addr + 1)

/-- `MemWrite(addr, 2, v)`: low byte first (R63). -/
def State.store16 (s : State) (addr v : Word) : State := (s.store addr (lo v)).store (addr + 1) (hi v)

/-- `Push16(v)`: the high byte at SP - 1, then the low byte at SP - 2 (R64). -/
def State.push16 (s : State) (v : Word) : State :=
  { ((s.store (s.sp - 1) (hi v)).store (s.sp - 2) (lo v)) with sp := s.sp - 2 }

/-- The value `Pop16()` returns (R65). -/
def State.popVal (s : State) : Word := s.peek16 s.sp

/-- What `Pop16()` does to the machine: two reads and SP two higher (R65). -/
def State.popped (s : State) : State := { s.noteRead16 s.sp with sp := s.sp + 2 }

/-! ### Exceptions and returns (60_exceptions.md) -/

/-- Index of the lowest line that is up; 4 also stands for no line (R312). -/
def lowestLine (irq : BitVec 5) : Fin 5 :=
  if irq.getLsbD 0 then 0 else if irq.getLsbD 1 then 1 else if irq.getLsbD 2 then 2 else if irq.getLsbD 3 then 3 else 4

/-- Address of the handler of request `k` (R313). -/
def vector (k : Fin 5) : Word := Config.vectorBase + 8 * BitVec.ofNat 16 k.val

/-- Cost of an interrupt entry in M-cycles (70_reset_and_hazards.md R354). -/
def entryCost : Nat := 5

/-- Entering request `k`: the gate and the two hidden bits clear, PC saved on the stack, PC at the vector,
`int_ack(k)` signalled (R314). -/
def State.enterInterrupt (s : State) (k : Fin 5) : State :=
  let t := ({ s with ime := false, pendingEnable := false, haltBug := false }).push16 s.pc
  { t with pc := vector k, ack := some k, cost := entryCost }

/-- Returning to the address on the stack, a transfer that is taken (47_control_flow.md R248); nothing but PC is
restored (R316). -/
def State.returnToCaller (s : State) : State := { s.popped with pc := s.popVal, taken := true }

/-- `raise UnknownOpcode(b)`: the latch takes the byte and its address, which PC still holds; nothing else
changes (R305). -/
def State.raiseUnknownOpcode (s : State) (byte : Byte) : State := { s with fault := some { byte := byte, addr := s.pc } }

/-! ### The pieces of one step (60_exceptions.md R300) -/

/-- What the environment does at the step about to be taken; beyond the listed inputs it is quiet (DESIGN CHOICE,
log entry 3). -/
def State.input (s : State) : Input := s.inputs.headD Input.quiet

/-- The start of a step: the environment's changes to memory are in, the lines are sampled once (R310), its answers
are ready, and the reports of the step before are gone. -/
def State.beginStep (s : State) : State :=
  { s with
    mem := Memory.writeAll s.mem s.input.pokes, irq := s.input.irq, inputs := s.inputs.tail,
    answers := s.input.answers, ack := none, bus := [], taken := true, cost := 0 }

/-- The effect of asserting `reset`: every piece of core state as after construction, the environment's side untouched
(70_reset_and_hazards.md R340). -/
def State.resetCore (s : State) (g : ResetGpr) : State :=
  { State.resetWith g with
    mem := s.mem, regions := s.regions, irq := s.irq, inputs := s.inputs, answers := s.answers }

/-- Item 1: in low power with no request (R302). -/
def State.asleep (s : State) : Bool := s.lowPower && s.irq == 0

/-- Item 1: an idle step changes nothing and costs one M-cycle (R302). -/
def State.idle (s : State) : State := { s with cost := 1 }

/-- Item 1: leaving low power, in the same step (R302). -/
def State.wake (s : State) : State := { s with lowPower := false }

/-- Item 2: the request accepted at this step, if any (R311, R312). -/
def State.accepted (s : State) : Option (Fin 5) := if s.ime && s.irq != 0 then some (lowestLine s.irq) else none

/-- Item 6: EI's promotion, for an instruction that began with `interrupt_pending_enable = p0` (R303). -/
def State.promote (s : State) (p0 : Bool) : State :=
  if p0 && s.pendingEnable then { s with ime := true, pendingEnable := false } else s

/-- The end of a step that executed an instruction with the cycle pair `cycles`: promotion, then the cost
chosen by `taken` (70_reset_and_hazards.md R352). -/
def State.complete (s : State) (p0 : Bool) (cycles : Nat × Nat) : State :=
  let t := s.promote p0
  { t with cost := if t.taken then cycles.1 else cycles.2 }

/-- Apply `f` to the next state of an outcome; a fault or a refusal stays what it is. -/
def mapNext (f : State → State) : Result → Result
  | .next t => .next (f t)
  | .fault r => .fault r
  | .refused r => .refused r

/-- Bytes laid down at `addr`, `addr + 1`, …, with no bus access: what a loader does (70_reset_and_hazards.md R343). -/
def State.load (s : State) (addr : Word) : List Byte → State
  | [] => s
  | v :: vs => State.load { s with mem := Memory.write s.mem addr.toNat v } (addr + 1) vs

/-- The core made ready to fetch at PC: no latched fault, awake, no repeated byte, no input listed. -/
def State.readyToFetch (s : State) : State :=
  { s with fault := none, lowPower := false, haltBug := false, inputs := [] }

end Sys2Proof.Machine
end

