-- ==== Sys2Proof/Machine/Operands.lean ====
section
/-! DEFINITION. Every operand form of the instruction set over the state (spec/30_encoding.md R93 to R96):
registers, pairs, the memory byte at HL, the high page, the condition predicate. All reads and writes of
registers by an operand go through here. -/

namespace Sys2Proof.Machine

/-! ### Registers and pairs (10_state.md R21, R23) -/

def State.getReg (s : State) : Reg8 → Byte
  | .b => s.b
  | .c => s.c
  | .d => s.d
  | .e => s.e
  | .h => s.h
  | .l => s.l
  | .a => s.a

def State.setReg (s : State) : Reg8 → Byte → State
  | .b, v => { s with b := v }
  | .c, v => { s with c := v }
  | .d, v => { s with d := v }
  | .e, v => { s with e := v }
  | .h, v => { s with h := v }
  | .l, v => { s with l := v }
  | .a, v => { s with a := v }

/-- AF is `A ++ F`, with the low nibble of F zero (R22, R23). -/
def State.af (s : State) : Word := join s.a s.f.toByte

def State.bc (s : State) : Word := join s.b s.c

def State.de (s : State) : Word := join s.d s.e

def State.hl (s : State) : Word := join s.h s.l

/-- A write of AF drops bits 3 to 0 (R23, D6). -/
def State.setAF (s : State) (v : Word) : State := { s with a := hi v, f := Flags.ofByte (lo v) }

def State.setBC (s : State) (v : Word) : State := { s with b := hi v, c := lo v }

def State.setDE (s : State) (v : Word) : State := { s with d := hi v, e := lo v }

def State.setHL (s : State) (v : Word) : State := { s with h := hi v, l := lo v }

/-- The pair selected in LD r16,n16, INC r16, DEC r16, ADD HL,r16 (30_encoding.md R94). -/
def State.getPair (s : State) : Pair → Word
  | .bc => s.bc
  | .de => s.de
  | .hl => s.hl
  | .sp => s.sp

def State.setPair (s : State) : Pair → Word → State
  | .bc, v => s.setBC v
  | .de, v => s.setDE v
  | .hl, v => s.setHL v
  | .sp, v => { s with sp := v }

/-- The pair selected in PUSH and POP (30_encoding.md R95). -/
def State.getStackPair (s : State) : StackPair → Word
  | .bc => s.bc
  | .de => s.de
  | .hl => s.hl
  | .af => s.af

def State.setStackPair (s : State) : StackPair → Word → State
  | .bc, v => s.setBC v
  | .de, v => s.setDE v
  | .hl, v => s.setHL v
  | .af, v => s.setAF v

/-! ### The 8-bit operand: a register, or the memory byte at HL (30_encoding.md R93) -/

/-- The value of the operand. -/
def State.val (s : State) : Operand8 → Byte
  | .reg r => s.getReg r
  | .memHL => s.peek s.hl

/-- The bus access that reading the operand issues, if it is the memory byte. -/
def State.touch (s : State) : Operand8 → State
  | .reg _ => s
  | .memHL => s.noteRead s.hl

/-- Write the operand. -/
def State.put (s : State) : Operand8 → Byte → State
  | .reg r, v => s.setReg r v
  | .memHL, v => s.store s.hl v

/-! ### Addresses and conditions -/

/-- The high-page address with low byte `a8`; there is no carry (49_loads.md R281). -/
def highPageAddr (a8 : Byte) : Word := join Config.highPage a8

/-- The condition predicate (47_control_flow.md R240). -/
def State.cond (s : State) : Cond → Bool
  | .nz => !s.f.z
  | .z => s.f.z
  | .nc => !s.f.c
  | .c => s.f.c

end Sys2Proof.Machine
end

