-- ==== Sys2Proof/Machine/Add16.lean ====
section
/-! DEFINITION. 16-bit additions (spec/41_add16.md) and 16-bit increments and decrements (spec/43_incdec.md R179,
R180): first the operations, then one meaning per instruction. -/

namespace Sys2Proof.Machine

/-- ADD HL,r16: Z stays, N 0 (R151). -/
def State.addHL (s : State) (p : Pair) : State :=
  let r := add16 s.hl (s.getPair p)
  { s.setHL r.1 with f := { z := s.f.z, n := false, h := r.2.1, c := r.2.2 } }

/-- The flags of SP + e8: Z and N 0 (R153, R154). -/
def spFlags (r : Word × Bool × Bool) : Flags := { z := false, n := false, h := r.2.1, c := r.2.2 }

/-- INC r16: no flag (R179). -/
def State.incPair (s : State) (p : Pair) : State := s.setPair p (s.getPair p + 1)

/-- DEC r16: no flag (R180). -/
def State.decPair (s : State) (p : Pair) : State := s.setPair p (s.getPair p - 1)

/-! ### The meanings, one per row of the opcode table -/

/-- INC BC (R179) -/
def execInc_BC (s : State) : Result := .next (s.incPair .bc)

/-- ADD HL,BC (R151) -/
def execAdd_HL_BC (s : State) : Result := .next (s.addHL .bc)

/-- DEC BC (R180) -/
def execDec_BC (s : State) : Result := .next (s.decPair .bc)

/-- INC DE (R179) -/
def execInc_DE (s : State) : Result := .next (s.incPair .de)

/-- ADD HL,DE (R151) -/
def execAdd_HL_DE (s : State) : Result := .next (s.addHL .de)

/-- DEC DE (R180) -/
def execDec_DE (s : State) : Result := .next (s.decPair .de)

/-- INC HL (R179) -/
def execInc_HL (s : State) : Result := .next (s.incPair .hl)

/-- ADD HL,HL (R151) -/
def execAdd_HL_HL (s : State) : Result := .next (s.addHL .hl)

/-- DEC HL (R180) -/
def execDec_HL (s : State) : Result := .next (s.decPair .hl)

/-- INC SP (R179) -/
def execInc_SP (s : State) : Result := .next (s.incPair .sp)

/-- ADD HL,SP (R151) -/
def execAdd_HL_SP (s : State) : Result := .next (s.addHL .sp)

/-- DEC SP (R180) -/
def execDec_SP (s : State) : Result := .next (s.decPair .sp)

/-- ADD SP,e8 (R153) -/
def execAdd_SP_e8 (e8 : Byte) (s : State) : Result := .next { s with sp := (addSp s.sp e8).1, f := spFlags (addSp s.sp e8) }

/-- LD HL,SP+e8 (R154) -/
def execLd_HL_SPe8 (e8 : Byte) (s : State) : Result := .next { s.setHL (addSp s.sp e8).1 with f := spFlags (addSp s.sp e8) }

end Sys2Proof.Machine
end

