-- ==== Sys2Proof/Machine/Alu.lean ====
section
/-! DEFINITION. The accumulator operations ADD, ADC, SUB, SBC, AND, XOR, OR, CP on a register, the memory byte at
HL and an immediate (spec/40_additive.md R132 to R146, spec/42_bitwise.md R161 to R169): first the operation, then
one meaning per instruction. -/

namespace Sys2Proof.Machine

/-- A and F take the operation's result for the operand value `v`. -/
def State.aluWith (s : State) (op : AluOp) (v : Byte) : State :=
  { s with a := (aluResult op s.a v s.f).1, f := (aluResult op s.a v s.f).2 }

/-- The operation on a register or the memory byte at HL. -/
def State.alu (s : State) (op : AluOp) (o : Operand8) : State := (s.touch o).aluWith op (s.val o)

/-! ### The meanings, one per row of the opcode table -/

/-- ADD A,B (R132) -/
def execAdd_A_B (s : State) : Result := .next (s.alu .add (.reg .b))

/-- ADD A,C (R132) -/
def execAdd_A_C (s : State) : Result := .next (s.alu .add (.reg .c))

/-- ADD A,D (R132) -/
def execAdd_A_D (s : State) : Result := .next (s.alu .add (.reg .d))

/-- ADD A,E (R132) -/
def execAdd_A_E (s : State) : Result := .next (s.alu .add (.reg .e))

/-- ADD A,H (R132) -/
def execAdd_A_H (s : State) : Result := .next (s.alu .add (.reg .h))

/-- ADD A,L (R132) -/
def execAdd_A_L (s : State) : Result := .next (s.alu .add (.reg .l))

/-- ADD A,(HL) (R133) -/
def execAdd_A_mHL (s : State) : Result := .next (s.alu .add .memHL)

/-- ADD A,A (R132) -/
def execAdd_A_A (s : State) : Result := .next (s.alu .add (.reg .a))

/-- ADC A,B (R135) -/
def execAdc_A_B (s : State) : Result := .next (s.alu .adc (.reg .b))

/-- ADC A,C (R135) -/
def execAdc_A_C (s : State) : Result := .next (s.alu .adc (.reg .c))

/-- ADC A,D (R135) -/
def execAdc_A_D (s : State) : Result := .next (s.alu .adc (.reg .d))

/-- ADC A,E (R135) -/
def execAdc_A_E (s : State) : Result := .next (s.alu .adc (.reg .e))

/-- ADC A,H (R135) -/
def execAdc_A_H (s : State) : Result := .next (s.alu .adc (.reg .h))

/-- ADC A,L (R135) -/
def execAdc_A_L (s : State) : Result := .next (s.alu .adc (.reg .l))

/-- ADC A,(HL) (R136) -/
def execAdc_A_mHL (s : State) : Result := .next (s.alu .adc .memHL)

/-- ADC A,A (R135) -/
def execAdc_A_A (s : State) : Result := .next (s.alu .adc (.reg .a))

/-- SUB A,B (R138) -/
def execSub_A_B (s : State) : Result := .next (s.alu .sub (.reg .b))

/-- SUB A,C (R138) -/
def execSub_A_C (s : State) : Result := .next (s.alu .sub (.reg .c))

/-- SUB A,D (R138) -/
def execSub_A_D (s : State) : Result := .next (s.alu .sub (.reg .d))

/-- SUB A,E (R138) -/
def execSub_A_E (s : State) : Result := .next (s.alu .sub (.reg .e))

/-- SUB A,H (R138) -/
def execSub_A_H (s : State) : Result := .next (s.alu .sub (.reg .h))

/-- SUB A,L (R138) -/
def execSub_A_L (s : State) : Result := .next (s.alu .sub (.reg .l))

/-- SUB A,(HL) (R139) -/
def execSub_A_mHL (s : State) : Result := .next (s.alu .sub .memHL)

/-- SUB A,A (R138) -/
def execSub_A_A (s : State) : Result := .next (s.alu .sub (.reg .a))

/-- SBC A,B (R141) -/
def execSbc_A_B (s : State) : Result := .next (s.alu .sbc (.reg .b))

/-- SBC A,C (R141) -/
def execSbc_A_C (s : State) : Result := .next (s.alu .sbc (.reg .c))

/-- SBC A,D (R141) -/
def execSbc_A_D (s : State) : Result := .next (s.alu .sbc (.reg .d))

/-- SBC A,E (R141) -/
def execSbc_A_E (s : State) : Result := .next (s.alu .sbc (.reg .e))

/-- SBC A,H (R141) -/
def execSbc_A_H (s : State) : Result := .next (s.alu .sbc (.reg .h))

/-- SBC A,L (R141) -/
def execSbc_A_L (s : State) : Result := .next (s.alu .sbc (.reg .l))

/-- SBC A,(HL) (R142) -/
def execSbc_A_mHL (s : State) : Result := .next (s.alu .sbc .memHL)

/-- SBC A,A (R141) -/
def execSbc_A_A (s : State) : Result := .next (s.alu .sbc (.reg .a))

/-- AND A,B (R161) -/
def execAnd_A_B (s : State) : Result := .next (s.alu .and (.reg .b))

/-- AND A,C (R161) -/
def execAnd_A_C (s : State) : Result := .next (s.alu .and (.reg .c))

/-- AND A,D (R161) -/
def execAnd_A_D (s : State) : Result := .next (s.alu .and (.reg .d))

/-- AND A,E (R161) -/
def execAnd_A_E (s : State) : Result := .next (s.alu .and (.reg .e))

/-- AND A,H (R161) -/
def execAnd_A_H (s : State) : Result := .next (s.alu .and (.reg .h))

/-- AND A,L (R161) -/
def execAnd_A_L (s : State) : Result := .next (s.alu .and (.reg .l))

/-- AND A,(HL) (R162) -/
def execAnd_A_mHL (s : State) : Result := .next (s.alu .and .memHL)

/-- AND A,A (R161) -/
def execAnd_A_A (s : State) : Result := .next (s.alu .and (.reg .a))

/-- XOR A,B (R164) -/
def execXor_A_B (s : State) : Result := .next (s.alu .xor (.reg .b))

/-- XOR A,C (R164) -/
def execXor_A_C (s : State) : Result := .next (s.alu .xor (.reg .c))

/-- XOR A,D (R164) -/
def execXor_A_D (s : State) : Result := .next (s.alu .xor (.reg .d))

/-- XOR A,E (R164) -/
def execXor_A_E (s : State) : Result := .next (s.alu .xor (.reg .e))

/-- XOR A,H (R164) -/
def execXor_A_H (s : State) : Result := .next (s.alu .xor (.reg .h))

/-- XOR A,L (R164) -/
def execXor_A_L (s : State) : Result := .next (s.alu .xor (.reg .l))

/-- XOR A,(HL) (R165) -/
def execXor_A_mHL (s : State) : Result := .next (s.alu .xor .memHL)

/-- XOR A,A (R164) -/
def execXor_A_A (s : State) : Result := .next (s.alu .xor (.reg .a))

/-- OR A,B (R167) -/
def execOr_A_B (s : State) : Result := .next (s.alu .or (.reg .b))

/-- OR A,C (R167) -/
def execOr_A_C (s : State) : Result := .next (s.alu .or (.reg .c))

/-- OR A,D (R167) -/
def execOr_A_D (s : State) : Result := .next (s.alu .or (.reg .d))

/-- OR A,E (R167) -/
def execOr_A_E (s : State) : Result := .next (s.alu .or (.reg .e))

/-- OR A,H (R167) -/
def execOr_A_H (s : State) : Result := .next (s.alu .or (.reg .h))

/-- OR A,L (R167) -/
def execOr_A_L (s : State) : Result := .next (s.alu .or (.reg .l))

/-- OR A,(HL) (R168) -/
def execOr_A_mHL (s : State) : Result := .next (s.alu .or .memHL)

/-- OR A,A (R167) -/
def execOr_A_A (s : State) : Result := .next (s.alu .or (.reg .a))

/-- CP A,B (R144) -/
def execCp_A_B (s : State) : Result := .next (s.alu .cp (.reg .b))

/-- CP A,C (R144) -/
def execCp_A_C (s : State) : Result := .next (s.alu .cp (.reg .c))

/-- CP A,D (R144) -/
def execCp_A_D (s : State) : Result := .next (s.alu .cp (.reg .d))

/-- CP A,E (R144) -/
def execCp_A_E (s : State) : Result := .next (s.alu .cp (.reg .e))

/-- CP A,H (R144) -/
def execCp_A_H (s : State) : Result := .next (s.alu .cp (.reg .h))

/-- CP A,L (R144) -/
def execCp_A_L (s : State) : Result := .next (s.alu .cp (.reg .l))

/-- CP A,(HL) (R145) -/
def execCp_A_mHL (s : State) : Result := .next (s.alu .cp .memHL)

/-- CP A,A (R144) -/
def execCp_A_A (s : State) : Result := .next (s.alu .cp (.reg .a))

/-- ADD A,n8 (R134) -/
def execAdd_A_n8 (n8 : Byte) (s : State) : Result := .next (s.aluWith .add n8)

/-- ADC A,n8 (R137) -/
def execAdc_A_n8 (n8 : Byte) (s : State) : Result := .next (s.aluWith .adc n8)

/-- SUB A,n8 (R140) -/
def execSub_A_n8 (n8 : Byte) (s : State) : Result := .next (s.aluWith .sub n8)

/-- SBC A,n8 (R143) -/
def execSbc_A_n8 (n8 : Byte) (s : State) : Result := .next (s.aluWith .sbc n8)

/-- AND A,n8 (R163) -/
def execAnd_A_n8 (n8 : Byte) (s : State) : Result := .next (s.aluWith .and n8)

/-- XOR A,n8 (R166) -/
def execXor_A_n8 (n8 : Byte) (s : State) : Result := .next (s.aluWith .xor n8)

/-- OR A,n8 (R169) -/
def execOr_A_n8 (n8 : Byte) (s : State) : Result := .next (s.aluWith .or n8)

/-- CP A,n8 (R146) -/
def execCp_A_n8 (n8 : Byte) (s : State) : Result := .next (s.aluWith .cp n8)

end Sys2Proof.Machine
end

