-- ==== Sys2Proof/Machine/Control.lean ====
section
/-! DEFINITION. Control transfer (spec/47_control_flow.md): first the operations, then one meaning per instruction.
On entry PC is the address after the instruction (R252); a transfer writes its target there. -/

namespace Sys2Proof.Machine

/-- JP: a transfer lands on its target and reports that it was taken (R241). -/
def State.jump (s : State) (target : Word) : State := { s with pc := target, taken := true }

/-- JR: the target counts from the address after the instruction (R244). -/
def State.jumpRel (s : State) (e8 : Byte) : State := s.jump (s.pc + sext e8)

/-- CALL: the address after the instruction is pushed (R246). -/
def State.call (s : State) (target : Word) : State := (s.push16 s.pc).jump target

/-- A conditional transfer: performed only when the condition holds; otherwise only that it was not taken is
reported (R240, R252). -/
def State.when (s : State) (cc : Cond) (transfer : State → State) : State :=
  if s.cond cc then transfer s else { s with taken := false }

/-- RST: a call of `8 * y` (R251). -/
def State.restart (s : State) (y : Fin 8) : State := s.call (8 * BitVec.ofNat 16 y.val)

/-! ### The meanings, one per row of the opcode table -/

/-- JR e8 (R244) -/
def execJr_e8 (e8 : Byte) (s : State) : Result := .next (s.jumpRel e8)

/-- JR NZ,e8 (R245) -/
def execJr_NZ_e8 (e8 : Byte) (s : State) : Result := .next (s.when .nz (fun t => t.jumpRel e8))

/-- JR Z,e8 (R245) -/
def execJr_Z_e8 (e8 : Byte) (s : State) : Result := .next (s.when .z (fun t => t.jumpRel e8))

/-- JR NC,e8 (R245) -/
def execJr_NC_e8 (e8 : Byte) (s : State) : Result := .next (s.when .nc (fun t => t.jumpRel e8))

/-- JR C,e8 (R245) -/
def execJr_C_e8 (e8 : Byte) (s : State) : Result := .next (s.when .c (fun t => t.jumpRel e8))

/-- RET NZ (R249) -/
def execRet_NZ (s : State) : Result := .next (s.when .nz State.returnToCaller)

/-- JP NZ,a16 (R242) -/
def execJp_NZ_a16 (n16 : Word) (s : State) : Result := .next (s.when .nz (fun t => t.jump n16))

/-- JP a16 (R241) -/
def execJp_a16 (n16 : Word) (s : State) : Result := .next (s.jump n16)

/-- CALL NZ,a16 (R247) -/
def execCall_NZ_a16 (n16 : Word) (s : State) : Result := .next (s.when .nz (fun t => t.call n16))

/-- RST $00 (R251) -/
def execRst_00 (s : State) : Result := .next (s.restart 0)

/-- RET Z (R249) -/
def execRet_Z (s : State) : Result := .next (s.when .z State.returnToCaller)

/-- RET (R248) -/
def execRet (s : State) : Result := .next (s.returnToCaller)

/-- JP Z,a16 (R242) -/
def execJp_Z_a16 (n16 : Word) (s : State) : Result := .next (s.when .z (fun t => t.jump n16))

/-- CALL Z,a16 (R247) -/
def execCall_Z_a16 (n16 : Word) (s : State) : Result := .next (s.when .z (fun t => t.call n16))

/-- CALL a16 (R246) -/
def execCall_a16 (n16 : Word) (s : State) : Result := .next (s.call n16)

/-- RST $08 (R251) -/
def execRst_08 (s : State) : Result := .next (s.restart 1)

/-- RET NC (R249) -/
def execRet_NC (s : State) : Result := .next (s.when .nc State.returnToCaller)

/-- JP NC,a16 (R242) -/
def execJp_NC_a16 (n16 : Word) (s : State) : Result := .next (s.when .nc (fun t => t.jump n16))

/-- CALL NC,a16 (R247) -/
def execCall_NC_a16 (n16 : Word) (s : State) : Result := .next (s.when .nc (fun t => t.call n16))

/-- RST $10 (R251) -/
def execRst_10 (s : State) : Result := .next (s.restart 2)

/-- RET C (R249) -/
def execRet_C (s : State) : Result := .next (s.when .c State.returnToCaller)

/-- RETI (R250) -/
def execReti (s : State) : Result := .next (({ s with ime := true } : State).returnToCaller)

/-- JP C,a16 (R242) -/
def execJp_C_a16 (n16 : Word) (s : State) : Result := .next (s.when .c (fun t => t.jump n16))

/-- CALL C,a16 (R247) -/
def execCall_C_a16 (n16 : Word) (s : State) : Result := .next (s.when .c (fun t => t.call n16))

/-- RST $18 (R251) -/
def execRst_18 (s : State) : Result := .next (s.restart 3)

/-- RST $20 (R251) -/
def execRst_20 (s : State) : Result := .next (s.restart 4)

/-- JP HL (R243) -/
def execJp_HL (s : State) : Result := .next (s.jump s.hl)

/-- RST $28 (R251) -/
def execRst_28 (s : State) : Result := .next (s.restart 5)

/-- RST $30 (R251) -/
def execRst_30 (s : State) : Result := .next (s.restart 6)

/-- RST $38 (R251) -/
def execRst_38 (s : State) : Result := .next (s.restart 7)

end Sys2Proof.Machine
end

