-- ==== Sys2Proof/Machine/Load.lean ====
section
/-! DEFINITION. Loads, stores, PUSH and POP (spec/49_loads.md): first the operations, then one meaning per
instruction. None of them writes a flag but POP AF (R295). -/

namespace Sys2Proof.Machine

/-- LD r8,r8' and LD r8,(HL) (R270, R272): the source is read before the destination is written. -/
def State.loadReg (s : State) (r : Reg8) (o : Operand8) : State := (s.touch o).setReg r (s.val o)

/-- LD (HL),r8 (R273). -/
def State.storeReg (s : State) (r : Reg8) : State := s.store s.hl (s.getReg r)

/-- A <- MemRead(addr, 1) (R275, R276, R279, R281, R283). -/
def State.loadA (s : State) (addr : Word) : State := { s.noteRead addr with a := s.peek addr }

/-- MemWrite(addr, 1, A) (R277, R278, R280, R282, R284). -/
def State.storeA (s : State) (addr : Word) : State := s.store addr s.a

/-- POP of a pair: the popped word, then SP two higher (R293, R294). -/
def State.popPair (s : State) (p : StackPair) : State := s.popped.setStackPair p s.popVal

/-! ### The meanings, one per row of the opcode table -/

/-- LD BC,n16 (R289) -/
def execLd_BC_n16 (n16 : Word) (s : State) : Result := .next (s.setPair .bc n16)

/-- LD (BC),A (R277) -/
def execLd_mBC_A (s : State) : Result := .next (s.storeA s.bc)

/-- LD B,n8 (R271) -/
def execLd_B_n8 (n8 : Byte) (s : State) : Result := .next (s.put (.reg .b) n8)

/-- LD (a16),SP (R290) -/
def execLd_ma16_SP (n16 : Word) (s : State) : Result := .next (s.store16 n16 s.sp)

/-- LD A,(BC) (R275) -/
def execLd_A_mBC (s : State) : Result := .next (s.loadA s.bc)

/-- LD C,n8 (R271) -/
def execLd_C_n8 (n8 : Byte) (s : State) : Result := .next (s.put (.reg .c) n8)

/-- LD DE,n16 (R289) -/
def execLd_DE_n16 (n16 : Word) (s : State) : Result := .next (s.setPair .de n16)

/-- LD (DE),A (R278) -/
def execLd_mDE_A (s : State) : Result := .next (s.storeA s.de)

/-- LD D,n8 (R271) -/
def execLd_D_n8 (n8 : Byte) (s : State) : Result := .next (s.put (.reg .d) n8)

/-- LD A,(DE) (R276) -/
def execLd_A_mDE (s : State) : Result := .next (s.loadA s.de)

/-- LD E,n8 (R271) -/
def execLd_E_n8 (n8 : Byte) (s : State) : Result := .next (s.put (.reg .e) n8)

/-- LD HL,n16 (R289) -/
def execLd_HL_n16 (n16 : Word) (s : State) : Result := .next (s.setPair .hl n16)

/-- LD (HL+),A (R285) -/
def execLd_mHLi_A (s : State) : Result := .next ((s.storeA s.hl).setHL (s.hl + 1))

/-- LD H,n8 (R271) -/
def execLd_H_n8 (n8 : Byte) (s : State) : Result := .next (s.put (.reg .h) n8)

/-- LD A,(HL+) (R287) -/
def execLd_A_mHLi (s : State) : Result := .next ((s.loadA s.hl).setHL (s.hl + 1))

/-- LD L,n8 (R271) -/
def execLd_L_n8 (n8 : Byte) (s : State) : Result := .next (s.put (.reg .l) n8)

/-- LD SP,n16 (R289) -/
def execLd_SP_n16 (n16 : Word) (s : State) : Result := .next (s.setPair .sp n16)

/-- LD (HL-),A (R286) -/
def execLd_mHLd_A (s : State) : Result := .next ((s.storeA s.hl).setHL (s.hl - 1))

/-- LD (HL),n8 (R274) -/
def execLd_mHL_n8 (n8 : Byte) (s : State) : Result := .next (s.put .memHL n8)

/-- LD A,(HL-) (R288) -/
def execLd_A_mHLd (s : State) : Result := .next ((s.loadA s.hl).setHL (s.hl - 1))

/-- LD A,n8 (R271) -/
def execLd_A_n8 (n8 : Byte) (s : State) : Result := .next (s.put (.reg .a) n8)

/-- LD B,B (R270) -/
def execLd_B_B (s : State) : Result := .next (s.loadReg .b (.reg .b))

/-- LD B,C (R270) -/
def execLd_B_C (s : State) : Result := .next (s.loadReg .b (.reg .c))

/-- LD B,D (R270) -/
def execLd_B_D (s : State) : Result := .next (s.loadReg .b (.reg .d))

/-- LD B,E (R270) -/
def execLd_B_E (s : State) : Result := .next (s.loadReg .b (.reg .e))

/-- LD B,H (R270) -/
def execLd_B_H (s : State) : Result := .next (s.loadReg .b (.reg .h))

/-- LD B,L (R270) -/
def execLd_B_L (s : State) : Result := .next (s.loadReg .b (.reg .l))

/-- LD B,(HL) (R272) -/
def execLd_B_mHL (s : State) : Result := .next (s.loadReg .b .memHL)

/-- LD B,A (R270) -/
def execLd_B_A (s : State) : Result := .next (s.loadReg .b (.reg .a))

/-- LD C,B (R270) -/
def execLd_C_B (s : State) : Result := .next (s.loadReg .c (.reg .b))

/-- LD C,C (R270) -/
def execLd_C_C (s : State) : Result := .next (s.loadReg .c (.reg .c))

/-- LD C,D (R270) -/
def execLd_C_D (s : State) : Result := .next (s.loadReg .c (.reg .d))

/-- LD C,E (R270) -/
def execLd_C_E (s : State) : Result := .next (s.loadReg .c (.reg .e))

/-- LD C,H (R270) -/
def execLd_C_H (s : State) : Result := .next (s.loadReg .c (.reg .h))

/-- LD C,L (R270) -/
def execLd_C_L (s : State) : Result := .next (s.loadReg .c (.reg .l))

/-- LD C,(HL) (R272) -/
def execLd_C_mHL (s : State) : Result := .next (s.loadReg .c .memHL)

/-- LD C,A (R270) -/
def execLd_C_A (s : State) : Result := .next (s.loadReg .c (.reg .a))

/-- LD D,B (R270) -/
def execLd_D_B (s : State) : Result := .next (s.loadReg .d (.reg .b))

/-- LD D,C (R270) -/
def execLd_D_C (s : State) : Result := .next (s.loadReg .d (.reg .c))

/-- LD D,D (R270) -/
def execLd_D_D (s : State) : Result := .next (s.loadReg .d (.reg .d))

/-- LD D,E (R270) -/
def execLd_D_E (s : State) : Result := .next (s.loadReg .d (.reg .e))

/-- LD D,H (R270) -/
def execLd_D_H (s : State) : Result := .next (s.loadReg .d (.reg .h))

/-- LD D,L (R270) -/
def execLd_D_L (s : State) : Result := .next (s.loadReg .d (.reg .l))

/-- LD D,(HL) (R272) -/
def execLd_D_mHL (s : State) : Result := .next (s.loadReg .d .memHL)

/-- LD D,A (R270) -/
def execLd_D_A (s : State) : Result := .next (s.loadReg .d (.reg .a))

/-- LD E,B (R270) -/
def execLd_E_B (s : State) : Result := .next (s.loadReg .e (.reg .b))

/-- LD E,C (R270) -/
def execLd_E_C (s : State) : Result := .next (s.loadReg .e (.reg .c))

/-- LD E,D (R270) -/
def execLd_E_D (s : State) : Result := .next (s.loadReg .e (.reg .d))

/-- LD E,E (R270) -/
def execLd_E_E (s : State) : Result := .next (s.loadReg .e (.reg .e))

/-- LD E,H (R270) -/
def execLd_E_H (s : State) : Result := .next (s.loadReg .e (.reg .h))

/-- LD E,L (R270) -/
def execLd_E_L (s : State) : Result := .next (s.loadReg .e (.reg .l))

/-- LD E,(HL) (R272) -/
def execLd_E_mHL (s : State) : Result := .next (s.loadReg .e .memHL)

/-- LD E,A (R270) -/
def execLd_E_A (s : State) : Result := .next (s.loadReg .e (.reg .a))

/-- LD H,B (R270) -/
def execLd_H_B (s : State) : Result := .next (s.loadReg .h (.reg .b))

/-- LD H,C (R270) -/
def execLd_H_C (s : State) : Result := .next (s.loadReg .h (.reg .c))

/-- LD H,D (R270) -/
def execLd_H_D (s : State) : Result := .next (s.loadReg .h (.reg .d))

/-- LD H,E (R270) -/
def execLd_H_E (s : State) : Result := .next (s.loadReg .h (.reg .e))

/-- LD H,H (R270) -/
def execLd_H_H (s : State) : Result := .next (s.loadReg .h (.reg .h))

/-- LD H,L (R270) -/
def execLd_H_L (s : State) : Result := .next (s.loadReg .h (.reg .l))

/-- LD H,(HL) (R272) -/
def execLd_H_mHL (s : State) : Result := .next (s.loadReg .h .memHL)

/-- LD H,A (R270) -/
def execLd_H_A (s : State) : Result := .next (s.loadReg .h (.reg .a))

/-- LD L,B (R270) -/
def execLd_L_B (s : State) : Result := .next (s.loadReg .l (.reg .b))

/-- LD L,C (R270) -/
def execLd_L_C (s : State) : Result := .next (s.loadReg .l (.reg .c))

/-- LD L,D (R270) -/
def execLd_L_D (s : State) : Result := .next (s.loadReg .l (.reg .d))

/-- LD L,E (R270) -/
def execLd_L_E (s : State) : Result := .next (s.loadReg .l (.reg .e))

/-- LD L,H (R270) -/
def execLd_L_H (s : State) : Result := .next (s.loadReg .l (.reg .h))

/-- LD L,L (R270) -/
def execLd_L_L (s : State) : Result := .next (s.loadReg .l (.reg .l))

/-- LD L,(HL) (R272) -/
def execLd_L_mHL (s : State) : Result := .next (s.loadReg .l .memHL)

/-- LD L,A (R270) -/
def execLd_L_A (s : State) : Result := .next (s.loadReg .l (.reg .a))

/-- LD (HL),B (R273) -/
def execLd_mHL_B (s : State) : Result := .next (s.storeReg .b)

/-- LD (HL),C (R273) -/
def execLd_mHL_C (s : State) : Result := .next (s.storeReg .c)

/-- LD (HL),D (R273) -/
def execLd_mHL_D (s : State) : Result := .next (s.storeReg .d)

/-- LD (HL),E (R273) -/
def execLd_mHL_E (s : State) : Result := .next (s.storeReg .e)

/-- LD (HL),H (R273) -/
def execLd_mHL_H (s : State) : Result := .next (s.storeReg .h)

/-- LD (HL),L (R273) -/
def execLd_mHL_L (s : State) : Result := .next (s.storeReg .l)

/-- LD (HL),A (R273) -/
def execLd_mHL_A (s : State) : Result := .next (s.storeReg .a)

/-- LD A,B (R270) -/
def execLd_A_B (s : State) : Result := .next (s.loadReg .a (.reg .b))

/-- LD A,C (R270) -/
def execLd_A_C (s : State) : Result := .next (s.loadReg .a (.reg .c))

/-- LD A,D (R270) -/
def execLd_A_D (s : State) : Result := .next (s.loadReg .a (.reg .d))

/-- LD A,E (R270) -/
def execLd_A_E (s : State) : Result := .next (s.loadReg .a (.reg .e))

/-- LD A,H (R270) -/
def execLd_A_H (s : State) : Result := .next (s.loadReg .a (.reg .h))

/-- LD A,L (R270) -/
def execLd_A_L (s : State) : Result := .next (s.loadReg .a (.reg .l))

/-- LD A,(HL) (R272) -/
def execLd_A_mHL (s : State) : Result := .next (s.loadReg .a .memHL)

/-- LD A,A (R270) -/
def execLd_A_A (s : State) : Result := .next (s.loadReg .a (.reg .a))

/-- POP BC (R293) -/
def execPop_BC (s : State) : Result := .next (s.popPair .bc)

/-- PUSH BC (R292) -/
def execPush_BC (s : State) : Result := .next (s.push16 (s.getStackPair .bc))

/-- POP DE (R293) -/
def execPop_DE (s : State) : Result := .next (s.popPair .de)

/-- PUSH DE (R292) -/
def execPush_DE (s : State) : Result := .next (s.push16 (s.getStackPair .de))

/-- LDH (a8),A (R282) -/
def execLdh_ma8_A (a8 : Byte) (s : State) : Result := .next (s.storeA (highPageAddr a8))

/-- POP HL (R293) -/
def execPop_HL (s : State) : Result := .next (s.popPair .hl)

/-- LDH (C),A (R284) -/
def execLdh_mC_A (s : State) : Result := .next (s.storeA (highPageAddr s.c))

/-- PUSH HL (R292) -/
def execPush_HL (s : State) : Result := .next (s.push16 (s.getStackPair .hl))

/-- LD (a16),A (R280) -/
def execLd_ma16_A (n16 : Word) (s : State) : Result := .next (s.storeA n16)

/-- LDH A,(a8) (R281) -/
def execLdh_A_ma8 (a8 : Byte) (s : State) : Result := .next (s.loadA (highPageAddr a8))

/-- POP AF (R294) -/
def execPop_AF (s : State) : Result := .next (s.popPair .af)

/-- LDH A,(C) (R283) -/
def execLdh_A_mC (s : State) : Result := .next (s.loadA (highPageAddr s.c))

/-- PUSH AF (R292) -/
def execPush_AF (s : State) : Result := .next (s.push16 (s.getStackPair .af))

/-- LD SP,HL (R291) -/
def execLd_SP_HL (s : State) : Result := .next { s with sp := s.hl }

/-- LD A,(a16) (R279) -/
def execLd_A_ma16 (n16 : Word) (s : State) : Result := .next (s.loadA n16)

end Sys2Proof.Machine
end

