-- ==== Sys2Proof/Machine/Misc.lean ====
section
/-! DEFINITION. DAA, CPL, SCF and CCF (spec/46_daa_misc.md). -/

namespace Sys2Proof.Machine

/-- DAA (R230). -/
def execDaa (s : State) : Result := .next { s with a := (daaResult s.a s.f).1, f := (daaResult s.a s.f).2 }

/-- CPL: A inverted, Z and C stay (R231). -/
def execCpl (s : State) : Result := .next { s with a := s.a ^^^ 0xFF, f := { s.f with n := true, h := true } }

/-- SCF: Z stays (R232). -/
def execScf (s : State) : Result := .next { s with f := { s.f with n := false, h := false, c := true } }

/-- CCF: Z stays, C inverted (R233). -/
def execCcf (s : State) : Result := .next { s with f := { s.f with n := false, h := false, c := !s.f.c } }

end Sys2Proof.Machine
end

