-- ==== Sys2Proof/WellFormed.lean ====
section
/-! DEFINITION. Which terms of the syntax are instructions the core executes (spec/30_encoding.md R108, R109, R115). -/

namespace Sys2Proof

/-- The rows of the eleven first bytes that select no instruction (R108). -/
def Instr.isIllegal : Instr → Bool
  | .illegal_D3 | .illegal_DB | .illegal_DD | .illegal_E3 | .illegal_E4 | .illegal_EB | .illegal_EC | .illegal_ED
  | .illegal_F4 | .illegal_FC | .illegal_FD => true
  | _ => false

/-- The base-table row of the prefix byte, which "never executes as an opcode itself" (R90, R115). -/
def Instr.isPrefix : Instr → Bool
  | .prefix_CB _ => true
  | _ => false

/-- Well formed: one of the 500 instructions. Every operand value an encoding admits is in the type of its
operand, so there is nothing else to check (R109). -/
def Instr.wf (i : Instr) : Bool := !i.isIllegal && !i.isPrefix

end Sys2Proof
end

