-- ==== Sys2Proof/Decode.lean ====
section
/-! DEFINITION. The decoder and the encoder (spec/30_encoding.md): the fields of an opcode byte, the operand tables,
the base and CB opcode maps, decoding of any bytes, and, after it, the words of an instruction. -/

namespace Sys2Proof

/-! ### Fields of an opcode byte (R92) -/

/-- `op[7:6]` -/
def fieldX (op : Byte) : Nat := (op.extractLsb' 6 2).toNat

/-- `op[5:3]` -/
def fieldY (op : Byte) : Nat := (op.extractLsb' 3 3).toNat

/-- `op[2:0]` -/
def fieldZ (op : Byte) : Nat := (op.extractLsb' 0 3).toNat

/-! ### Operand tables (R93 to R96, R101, R102): by number, and the number of each -/

def Operand8.ofField : Nat → Operand8
  | 0 => .reg .b
  | 1 => .reg .c
  | 2 => .reg .d
  | 3 => .reg .e
  | 4 => .reg .h
  | 5 => .reg .l
  | 6 => .memHL
  | _ => .reg .a

def Operand8.code : Operand8 → Byte
  | .reg .b => 0
  | .reg .c => 1
  | .reg .d => 2
  | .reg .e => 3
  | .reg .h => 4
  | .reg .l => 5
  | .memHL => 6
  | .reg .a => 7

def Reg8.code (r : Reg8) : Byte := (Operand8.reg r).code

def Pair.ofField : Nat → Pair
  | 0 => .bc
  | 1 => .de
  | 2 => .hl
  | _ => .sp

def Pair.code : Pair → Byte
  | .bc => 0
  | .de => 1
  | .hl => 2
  | .sp => 3

def StackPair.ofField : Nat → StackPair
  | 0 => .bc
  | 1 => .de
  | 2 => .hl
  | _ => .af

def StackPair.code : StackPair → Byte
  | .bc => 0
  | .de => 1
  | .hl => 2
  | .af => 3

def Cond.ofField : Nat → Cond
  | 0 => .nz
  | 1 => .z
  | 2 => .nc
  | _ => .c

def Cond.code : Cond → Byte
  | .nz => 0
  | .z => 1
  | .nc => 2
  | .c => 3

def AluOp.ofField : Nat → AluOp
  | 0 => .add
  | 1 => .adc
  | 2 => .sub
  | 3 => .sbc
  | 4 => .and
  | 5 => .xor
  | 6 => .or
  | _ => .cp

def AluOp.code : AluOp → Byte
  | .add => 0
  | .adc => 1
  | .sub => 2
  | .sbc => 3
  | .and => 4
  | .xor => 5
  | .or => 6
  | .cp => 7

def RotOp.ofField : Nat → RotOp
  | 0 => .rlc
  | 1 => .rrc
  | 2 => .rl
  | 3 => .rr
  | 4 => .sla
  | 5 => .sra
  | 6 => .swap
  | _ => .srl

def RotOp.code : RotOp → Byte
  | .rlc => 0
  | .rrc => 1
  | .rl => 2
  | .rr => 3
  | .sla => 4
  | .sra => 5
  | .swap => 6
  | .srl => 7

/-! ### The instruction that operands select within a family -/

/-- One of eight things, by the operand. -/
def Operand8.pick {α : Type} (o : Operand8) (vb vc vd ve vh vl vm va : α) : α :=
  match o with
  | .reg .b => vb
  | .reg .c => vc
  | .reg .d => vd
  | .reg .e => ve
  | .reg .h => vh
  | .reg .l => vl
  | .memHL => vm
  | .reg .a => va

/-- One of seven things, by the register. -/
def Reg8.pick {α : Type} (r : Reg8) (vb vc vd ve vh vl va : α) : α :=
  (Operand8.reg r).pick vb vc vd ve vh vl va va

/-- One of eight things, by a bit number or an RST number. -/
def pick8 {α : Type} (n : Fin 8) (x0 x1 x2 x3 x4 x5 x6 x7 : α) : α :=
  match n.val with
  | 0 => x0
  | 1 => x1
  | 2 => x2
  | 3 => x3
  | 4 => x4
  | 5 => x5
  | 6 => x6
  | _ => x7

/-- INC r8, INC (HL) (R103) -/
def Instr.inc (o : Operand8) : Instr :=
  o.pick .inc_B .inc_C .inc_D .inc_E .inc_H .inc_L .inc_mHL .inc_A

/-- DEC r8, DEC (HL) (R103) -/
def Instr.dec (o : Operand8) : Instr :=
  o.pick .dec_B .dec_C .dec_D .dec_E .dec_H .dec_L .dec_mHL .dec_A

/-- LD r8,n8, LD (HL),n8 (R103) -/
def Instr.ldImm (o : Operand8) (n8 : Byte) : Instr :=
  o.pick (.ld_B_n8 n8) (.ld_C_n8 n8) (.ld_D_n8 n8) (.ld_E_n8 n8) (.ld_H_n8 n8) (.ld_L_n8 n8) (.ld_mHL_n8 n8) (.ld_A_n8 n8)

/-- LD r8,r8', LD r8,(HL) (R104) -/
def Instr.ldReg (r : Reg8) (o : Operand8) : Instr :=
  r.pick
    (o.pick .ld_B_B .ld_B_C .ld_B_D .ld_B_E .ld_B_H .ld_B_L .ld_B_mHL .ld_B_A)
    (o.pick .ld_C_B .ld_C_C .ld_C_D .ld_C_E .ld_C_H .ld_C_L .ld_C_mHL .ld_C_A)
    (o.pick .ld_D_B .ld_D_C .ld_D_D .ld_D_E .ld_D_H .ld_D_L .ld_D_mHL .ld_D_A)
    (o.pick .ld_E_B .ld_E_C .ld_E_D .ld_E_E .ld_E_H .ld_E_L .ld_E_mHL .ld_E_A)
    (o.pick .ld_H_B .ld_H_C .ld_H_D .ld_H_E .ld_H_H .ld_H_L .ld_H_mHL .ld_H_A)
    (o.pick .ld_L_B .ld_L_C .ld_L_D .ld_L_E .ld_L_H .ld_L_L .ld_L_mHL .ld_L_A)
    (o.pick .ld_A_B .ld_A_C .ld_A_D .ld_A_E .ld_A_H .ld_A_L .ld_A_mHL .ld_A_A)

/-- LD (HL),r8 (R104) -/
def Instr.ldStore (r : Reg8) : Instr :=
  r.pick .ld_mHL_B .ld_mHL_C .ld_mHL_D .ld_mHL_E .ld_mHL_H .ld_mHL_L .ld_mHL_A

/-- The accumulator operations on r8 and (HL) (R105) -/
def Instr.alu (op : AluOp) (o : Operand8) : Instr :=
  match op with
  | .add => o.pick .add_A_B .add_A_C .add_A_D .add_A_E .add_A_H .add_A_L .add_A_mHL .add_A_A
  | .adc => o.pick .adc_A_B .adc_A_C .adc_A_D .adc_A_E .adc_A_H .adc_A_L .adc_A_mHL .adc_A_A
  | .sub => o.pick .sub_A_B .sub_A_C .sub_A_D .sub_A_E .sub_A_H .sub_A_L .sub_A_mHL .sub_A_A
  | .sbc => o.pick .sbc_A_B .sbc_A_C .sbc_A_D .sbc_A_E .sbc_A_H .sbc_A_L .sbc_A_mHL .sbc_A_A
  | .and => o.pick .and_A_B .and_A_C .and_A_D .and_A_E .and_A_H .and_A_L .and_A_mHL .and_A_A
  | .xor => o.pick .xor_A_B .xor_A_C .xor_A_D .xor_A_E .xor_A_H .xor_A_L .xor_A_mHL .xor_A_A
  | .or => o.pick .or_A_B .or_A_C .or_A_D .or_A_E .or_A_H .or_A_L .or_A_mHL .or_A_A
  | .cp => o.pick .cp_A_B .cp_A_C .cp_A_D .cp_A_E .cp_A_H .cp_A_L .cp_A_mHL .cp_A_A

/-- The accumulator operations on n8 (R106) -/
def Instr.aluImm (op : AluOp) (n8 : Byte) : Instr :=
  match op with
  | .add => .add_A_n8 n8
  | .adc => .adc_A_n8 n8
  | .sub => .sub_A_n8 n8
  | .sbc => .sbc_A_n8 n8
  | .and => .and_A_n8 n8
  | .xor => .xor_A_n8 n8
  | .or => .or_A_n8 n8
  | .cp => .cp_A_n8 n8

/-- LD r16,n16 (R103) -/
def Instr.ldPair (p : Pair) (n16 : Word) : Instr :=
  match p with
  | .bc => .ld_BC_n16 n16
  | .de => .ld_DE_n16 n16
  | .hl => .ld_HL_n16 n16
  | .sp => .ld_SP_n16 n16

/-- ADD HL,r16 (R103) -/
def Instr.addHL (p : Pair) : Instr :=
  match p with
  | .bc => .add_HL_BC
  | .de => .add_HL_DE
  | .hl => .add_HL_HL
  | .sp => .add_HL_SP

/-- INC r16 (R103) -/
def Instr.incPair (p : Pair) : Instr :=
  match p with
  | .bc => .inc_BC
  | .de => .inc_DE
  | .hl => .inc_HL
  | .sp => .inc_SP

/-- DEC r16 (R103) -/
def Instr.decPair (p : Pair) : Instr :=
  match p with
  | .bc => .dec_BC
  | .de => .dec_DE
  | .hl => .dec_HL
  | .sp => .dec_SP

/-- PUSH (R106) -/
def Instr.push (p : StackPair) : Instr :=
  match p with
  | .bc => .push_BC
  | .de => .push_DE
  | .hl => .push_HL
  | .af => .push_AF

/-- POP (R106) -/
def Instr.pop (p : StackPair) : Instr :=
  match p with
  | .bc => .pop_BC
  | .de => .pop_DE
  | .hl => .pop_HL
  | .af => .pop_AF

/-- JR cc,e8 (R103) -/
def Instr.jrIf (cc : Cond) (e8 : Byte) : Instr :=
  match cc with
  | .nz => .jr_NZ_e8 e8
  | .z => .jr_Z_e8 e8
  | .nc => .jr_NC_e8 e8
  | .c => .jr_C_e8 e8

/-- JP cc,a16 (R106) -/
def Instr.jpIf (cc : Cond) (n16 : Word) : Instr :=
  match cc with
  | .nz => .jp_NZ_a16 n16
  | .z => .jp_Z_a16 n16
  | .nc => .jp_NC_a16 n16
  | .c => .jp_C_a16 n16

/-- CALL cc,a16 (R106) -/
def Instr.callIf (cc : Cond) (n16 : Word) : Instr :=
  match cc with
  | .nz => .call_NZ_a16 n16
  | .z => .call_Z_a16 n16
  | .nc => .call_NC_a16 n16
  | .c => .call_C_a16 n16

/-- RET cc (R106) -/
def Instr.retIf (cc : Cond) : Instr :=
  match cc with
  | .nz => .ret_NZ
  | .z => .ret_Z
  | .nc => .ret_NC
  | .c => .ret_C

/-- RST 8 * y (R106) -/
def Instr.rst (y : Fin 8) : Instr :=
  pick8 y .rst_00 .rst_08 .rst_10 .rst_18 .rst_20 .rst_28 .rst_30 .rst_38

/-- The CB rotates and shifts (R107) -/
def Instr.rot (op : RotOp) (o : Operand8) : Instr :=
  match op with
  | .rlc => o.pick .rlc_B .rlc_C .rlc_D .rlc_E .rlc_H .rlc_L .rlc_mHL .rlc_A
  | .rrc => o.pick .rrc_B .rrc_C .rrc_D .rrc_E .rrc_H .rrc_L .rrc_mHL .rrc_A
  | .rl => o.pick .rl_B .rl_C .rl_D .rl_E .rl_H .rl_L .rl_mHL .rl_A
  | .rr => o.pick .rr_B .rr_C .rr_D .rr_E .rr_H .rr_L .rr_mHL .rr_A
  | .sla => o.pick .sla_B .sla_C .sla_D .sla_E .sla_H .sla_L .sla_mHL .sla_A
  | .sra => o.pick .sra_B .sra_C .sra_D .sra_E .sra_H .sra_L .sra_mHL .sra_A
  | .swap => o.pick .swap_B .swap_C .swap_D .swap_E .swap_H .swap_L .swap_mHL .swap_A
  | .srl => o.pick .srl_B .srl_C .srl_D .srl_E .srl_H .srl_L .srl_mHL .srl_A

/-- BIT b,r8 and BIT b,(HL) (R107) -/
def Instr.bit (b : Fin 8) (o : Operand8) : Instr :=
  pick8 b
    (o.pick .bit_0_B .bit_0_C .bit_0_D .bit_0_E .bit_0_H .bit_0_L .bit_0_mHL .bit_0_A)
    (o.pick .bit_1_B .bit_1_C .bit_1_D .bit_1_E .bit_1_H .bit_1_L .bit_1_mHL .bit_1_A)
    (o.pick .bit_2_B .bit_2_C .bit_2_D .bit_2_E .bit_2_H .bit_2_L .bit_2_mHL .bit_2_A)
    (o.pick .bit_3_B .bit_3_C .bit_3_D .bit_3_E .bit_3_H .bit_3_L .bit_3_mHL .bit_3_A)
    (o.pick .bit_4_B .bit_4_C .bit_4_D .bit_4_E .bit_4_H .bit_4_L .bit_4_mHL .bit_4_A)
    (o.pick .bit_5_B .bit_5_C .bit_5_D .bit_5_E .bit_5_H .bit_5_L .bit_5_mHL .bit_5_A)
    (o.pick .bit_6_B .bit_6_C .bit_6_D .bit_6_E .bit_6_H .bit_6_L .bit_6_mHL .bit_6_A)
    (o.pick .bit_7_B .bit_7_C .bit_7_D .bit_7_E .bit_7_H .bit_7_L .bit_7_mHL .bit_7_A)

/-- RES b,r8 and RES b,(HL) (R107) -/
def Instr.res (b : Fin 8) (o : Operand8) : Instr :=
  pick8 b
    (o.pick .res_0_B .res_0_C .res_0_D .res_0_E .res_0_H .res_0_L .res_0_mHL .res_0_A)
    (o.pick .res_1_B .res_1_C .res_1_D .res_1_E .res_1_H .res_1_L .res_1_mHL .res_1_A)
    (o.pick .res_2_B .res_2_C .res_2_D .res_2_E .res_2_H .res_2_L .res_2_mHL .res_2_A)
    (o.pick .res_3_B .res_3_C .res_3_D .res_3_E .res_3_H .res_3_L .res_3_mHL .res_3_A)
    (o.pick .res_4_B .res_4_C .res_4_D .res_4_E .res_4_H .res_4_L .res_4_mHL .res_4_A)
    (o.pick .res_5_B .res_5_C .res_5_D .res_5_E .res_5_H .res_5_L .res_5_mHL .res_5_A)
    (o.pick .res_6_B .res_6_C .res_6_D .res_6_E .res_6_H .res_6_L .res_6_mHL .res_6_A)
    (o.pick .res_7_B .res_7_C .res_7_D .res_7_E .res_7_H .res_7_L .res_7_mHL .res_7_A)

/-- SET b,r8 and SET b,(HL) (R107) -/
def Instr.set (b : Fin 8) (o : Operand8) : Instr :=
  pick8 b
    (o.pick .set_0_B .set_0_C .set_0_D .set_0_E .set_0_H .set_0_L .set_0_mHL .set_0_A)
    (o.pick .set_1_B .set_1_C .set_1_D .set_1_E .set_1_H .set_1_L .set_1_mHL .set_1_A)
    (o.pick .set_2_B .set_2_C .set_2_D .set_2_E .set_2_H .set_2_L .set_2_mHL .set_2_A)
    (o.pick .set_3_B .set_3_C .set_3_D .set_3_E .set_3_H .set_3_L .set_3_mHL .set_3_A)
    (o.pick .set_4_B .set_4_C .set_4_D .set_4_E .set_4_H .set_4_L .set_4_mHL .set_4_A)
    (o.pick .set_5_B .set_5_C .set_5_D .set_5_E .set_5_H .set_5_L .set_5_mHL .set_5_A)
    (o.pick .set_6_B .set_6_C .set_6_D .set_6_E .set_6_H .set_6_L .set_6_mHL .set_6_A)
    (o.pick .set_7_B .set_7_C .set_7_D .set_7_E .set_7_H .set_7_L .set_7_mHL .set_7_A)

/-! ### The base opcode map (R103 to R106) -/

/-- Base opcodes with x = 0 (R103). -/
def baseX0 (y z : Nat) (n8 : Byte) (n16 : Word) : Instr :=
  match z, y with
  | 0, 0 => .nop
  | 0, 1 => .ld_ma16_SP n16
  | 0, 2 => .stop n8
  | 0, 3 => .jr_e8 n8
  | 0, y => .jrIf (Cond.ofField (y - 4)) n8
  | 1, y => if y % 2 = 0 then .ldPair (Pair.ofField (y / 2)) n16 else .addHL (Pair.ofField (y / 2))
  | 2, 0 => .ld_mBC_A
  | 2, 1 => .ld_A_mBC
  | 2, 2 => .ld_mDE_A
  | 2, 3 => .ld_A_mDE
  | 2, 4 => .ld_mHLi_A
  | 2, 5 => .ld_A_mHLi
  | 2, 6 => .ld_mHLd_A
  | 2, _ => .ld_A_mHLd
  | 3, y => if y % 2 = 0 then .incPair (Pair.ofField (y / 2)) else .decPair (Pair.ofField (y / 2))
  | 4, y => .inc (Operand8.ofField y)
  | 5, y => .dec (Operand8.ofField y)
  | 6, y => .ldImm (Operand8.ofField y) n8
  | _, 0 => .rlca
  | _, 1 => .rrca
  | _, 2 => .rla
  | _, 3 => .rra
  | _, 4 => .daa
  | _, 5 => .cpl
  | _, 6 => .scf
  | _, _ => .ccf

/-- Base opcodes with x = 1: LD r8,r8 and HALT in the place of LD (HL),(HL) (R104). -/
def baseX1 (y z : Nat) : Instr :=
  match Operand8.ofField y, Operand8.ofField z with
  | .reg r, o => .ldReg r o
  | .memHL, .reg r => .ldStore r
  | .memHL, .memHL => .halt

/-- Base opcodes with x = 3 (R106), the eleven bytes without an instruction among them (R108). -/
def baseX3 (y z : Nat) (n8 : Byte) (n16 : Word) : Instr :=
  match z, y with
  | 0, 4 => .ldh_ma8_A n8
  | 0, 5 => .add_SP_e8 n8
  | 0, 6 => .ldh_A_ma8 n8
  | 0, 7 => .ld_HL_SPe8 n8
  | 0, y => .retIf (Cond.ofField y)
  | 1, 1 => .ret
  | 1, 3 => .reti
  | 1, 5 => .jp_HL
  | 1, 7 => .ld_SP_HL
  | 1, y => .pop (StackPair.ofField (y / 2))
  | 2, 4 => .ldh_mC_A
  | 2, 5 => .ld_ma16_A n16
  | 2, 6 => .ldh_A_mC
  | 2, 7 => .ld_A_ma16 n16
  | 2, y => .jpIf (Cond.ofField y) n16
  | 3, 0 => .jp_a16 n16
  | 3, 1 => .prefix_CB n8
  | 3, 2 => .illegal_D3
  | 3, 3 => .illegal_DB
  | 3, 4 => .illegal_E3
  | 3, 5 => .illegal_EB
  | 3, 6 => .di
  | 3, _ => .ei
  | 4, 4 => .illegal_E4
  | 4, 5 => .illegal_EC
  | 4, 6 => .illegal_F4
  | 4, 7 => .illegal_FC
  | 4, y => .callIf (Cond.ofField y) n16
  | 5, 1 => .call_a16 n16
  | 5, 3 => .illegal_DD
  | 5, 5 => .illegal_ED
  | 5, 7 => .illegal_FD
  | 5, y => .push (StackPair.ofField (y / 2))
  | 6, y => .aluImm (AluOp.ofField y) n8
  | _, y => .rst (Fin.ofNat 8 y)

/-- The base-table entry of the opcode byte `b0`, its immediates filled from the bytes `b1`, `b2` that follow,
low byte first (R97). -/
def baseRow (b0 b1 b2 : Byte) : Instr :=
  match fieldX b0 with
  | 0 => baseX0 (fieldY b0) (fieldZ b0) b1 (b2 ++ b1)
  | 1 => baseX1 (fieldY b0) (fieldZ b0)
  | 2 => .alu (AluOp.ofField (fieldY b0)) (Operand8.ofField (fieldZ b0))
  | _ => baseX3 (fieldY b0) (fieldZ b0) b1 (b2 ++ b1)

/-- The CB-table entry of a byte (R107). -/
def cbRow (op : Byte) : Instr :=
  match fieldX op with
  | 0 => .rot (RotOp.ofField (fieldY op)) (Operand8.ofField (fieldZ op))
  | 1 => .bit (Fin.ofNat 8 (fieldY op)) (Operand8.ofField (fieldZ op))
  | 2 => .res (Fin.ofNat 8 (fieldY op)) (Operand8.ofField (fieldZ op))
  | _ => .set (Fin.ofNat 8 (fieldY op)) (Operand8.ofField (fieldZ op))

/-! ### The decoder (R98, R110) -/

/-- The prefix byte, "always the escape into the CB table" (R90). -/
def prefixByte : Byte := 0xCB

/-- The table entry that the bytes `b0`, `b1`, `b2` select; bytes beyond the instruction do not matter (R98). -/
def decodeRow (b0 b1 b2 : Byte) : Instr := if b0 = prefixByte then cbRow b1 else baseRow b0 b1 b2

/-- How many bytes follow the opcode byte `b0` (R91, R110): one after the prefix, else the immediate's. -/
def operandBytes (b0 : Byte) : Nat :=
  match fieldX b0, fieldZ b0, fieldY b0 with
  | 0, 0, 0 => 0
  | 0, 0, 1 => 2
  | 0, 0, _ => 1
  | 0, 1, y => if y % 2 = 0 then 2 else 0
  | 0, 6, _ => 1
  | 3, 0, y => if 4 ≤ y then 1 else 0
  | 3, 2, y => if y = 4 ∨ y = 6 then 0 else 2
  | 3, 3, 0 => 2
  | 3, 3, 1 => 1
  | 3, 4, y => if y < 4 then 2 else 0
  | 3, 5, 1 => 2
  | 3, 6, _ => 1
  | _, _, _ => 0

/-- Why bytes are no instruction yet. -/
inductive DecodeError where
  /-- there is no byte at all -/
  | noByte
  /-- bytes of the instruction that begins with `b0` are missing -/
  | truncated (b0 : Byte)
deriving DecidableEq, Repr

/-- The table entry at the head of a list of bytes and the bytes after it (R98). A byte without an instruction
decodes to its ILLEGAL entry, which is not well formed (R108). -/
def decode : List Byte → Except DecodeError (Instr × List Byte)
  | [] => .error .noByte
  | b0 :: bs =>
    if bs.length < operandBytes b0 then .error (.truncated b0)
    else .ok (decodeRow b0 (bs.getD 0 0) (bs.getD 1 0), bs.drop (operandBytes b0))

/-- The bytes, first one first, of an instruction whose bits are `w` as spec/opcode_table.json numbers them: a CB
row counts its two bytes as `byte0 * 256 + byte1` (R114), every other row has its opcode byte in bits 7 to 0
(DEDUCED, log entry 9). -/
def tableBytes (nbits w : Nat) : List Byte :=
  if nbits = 16 ∧ w / 256 = prefixByte.toNat then [prefixByte, BitVec.ofNat 8 w, 0]
  else [BitVec.ofNat 8 w, BitVec.ofNat 8 (w / 256), BitVec.ofNat 8 (w / 65536)]

/-- The instruction the decoder reads from a table word (log entry 9). -/
def decodeTableWord (nbits w : Nat) : Option Instr :=
  match decode (tableBytes nbits w) with
  | .ok (i, _) => some i
  | .error _ => none

/-! ### The encoder -/

/-- The bytes of an instruction, from the encoding line of its rule; immediates low byte first (R91, R97). -/
def encode : Instr → List Byte
  | .nop => [0x00]
  | .ld_BC_n16 n16 => [0x01, n16.extractLsb' 0 8, n16.extractLsb' 8 8]
  | .ld_mBC_A => [0x02]
  | .inc_BC => [0x03]
  | .inc_B => [0x04]
  | .dec_B => [0x05]
  | .ld_B_n8 n8 => [0x06, n8]
  | .rlca => [0x07]
  | .ld_ma16_SP n16 => [0x08, n16.extractLsb' 0 8, n16.extractLsb' 8 8]
  | .add_HL_BC => [0x09]
  | .ld_A_mBC => [0x0A]
  | .dec_BC => [0x0B]
  | .inc_C => [0x0C]
  | .dec_C => [0x0D]
  | .ld_C_n8 n8 => [0x0E, n8]
  | .rrca => [0x0F]
  | .stop pad => [0x10, pad]
  | .ld_DE_n16 n16 => [0x11, n16.extractLsb' 0 8, n16.extractLsb' 8 8]
  | .ld_mDE_A => [0x12]
  | .inc_DE => [0x13]
  | .inc_D => [0x14]
  | .dec_D => [0x15]
  | .ld_D_n8 n8 => [0x16, n8]
  | .rla => [0x17]
  | .jr_e8 e8 => [0x18, e8]
  | .add_HL_DE => [0x19]
  | .ld_A_mDE => [0x1A]
  | .dec_DE => [0x1B]
  | .inc_E => [0x1C]
  | .dec_E => [0x1D]
  | .ld_E_n8 n8 => [0x1E, n8]
  | .rra => [0x1F]
  | .jr_NZ_e8 e8 => [0x20, e8]
  | .ld_HL_n16 n16 => [0x21, n16.extractLsb' 0 8, n16.extractLsb' 8 8]
  | .ld_mHLi_A => [0x22]
  | .inc_HL => [0x23]
  | .inc_H => [0x24]
  | .dec_H => [0x25]
  | .ld_H_n8 n8 => [0x26, n8]
  | .daa => [0x27]
  | .jr_Z_e8 e8 => [0x28, e8]
  | .add_HL_HL => [0x29]
  | .ld_A_mHLi => [0x2A]
  | .dec_HL => [0x2B]
  | .inc_L => [0x2C]
  | .dec_L => [0x2D]
  | .ld_L_n8 n8 => [0x2E, n8]
  | .cpl => [0x2F]
  | .jr_NC_e8 e8 => [0x30, e8]
  | .ld_SP_n16 n16 => [0x31, n16.extractLsb' 0 8, n16.extractLsb' 8 8]
  | .ld_mHLd_A => [0x32]
  | .inc_SP => [0x33]
  | .inc_mHL => [0x34]
  | .dec_mHL => [0x35]
  | .ld_mHL_n8 n8 => [0x36, n8]
  | .scf => [0x37]
  | .jr_C_e8 e8 => [0x38, e8]
  | .add_HL_SP => [0x39]
  | .ld_A_mHLd => [0x3A]
  | .dec_SP => [0x3B]
  | .inc_A => [0x3C]
  | .dec_A => [0x3D]
  | .ld_A_n8 n8 => [0x3E, n8]
  | .ccf => [0x3F]
  | .ld_B_B => [0x40]
  | .ld_B_C => [0x41]
  | .ld_B_D => [0x42]
  | .ld_B_E => [0x43]
  | .ld_B_H => [0x44]
  | .ld_B_L => [0x45]
  | .ld_B_mHL => [0x46]
  | .ld_B_A => [0x47]
  | .ld_C_B => [0x48]
  | .ld_C_C => [0x49]
  | .ld_C_D => [0x4A]
  | .ld_C_E => [0x4B]
  | .ld_C_H => [0x4C]
  | .ld_C_L => [0x4D]
  | .ld_C_mHL => [0x4E]
  | .ld_C_A => [0x4F]
  | .ld_D_B => [0x50]
  | .ld_D_C => [0x51]
  | .ld_D_D => [0x52]
  | .ld_D_E => [0x53]
  | .ld_D_H => [0x54]
  | .ld_D_L => [0x55]
  | .ld_D_mHL => [0x56]
  | .ld_D_A => [0x57]
  | .ld_E_B => [0x58]
  | .ld_E_C => [0x59]
  | .ld_E_D => [0x5A]
  | .ld_E_E => [0x5B]
  | .ld_E_H => [0x5C]
  | .ld_E_L => [0x5D]
  | .ld_E_mHL => [0x5E]
  | .ld_E_A => [0x5F]
  | .ld_H_B => [0x60]
  | .ld_H_C => [0x61]
  | .ld_H_D => [0x62]
  | .ld_H_E => [0x63]
  | .ld_H_H => [0x64]
  | .ld_H_L => [0x65]
  | .ld_H_mHL => [0x66]
  | .ld_H_A => [0x67]
  | .ld_L_B => [0x68]
  | .ld_L_C => [0x69]
  | .ld_L_D => [0x6A]
  | .ld_L_E => [0x6B]
  | .ld_L_H => [0x6C]
  | .ld_L_L => [0x6D]
  | .ld_L_mHL => [0x6E]
  | .ld_L_A => [0x6F]
  | .ld_mHL_B => [0x70]
  | .ld_mHL_C => [0x71]
  | .ld_mHL_D => [0x72]
  | .ld_mHL_E => [0x73]
  | .ld_mHL_H => [0x74]
  | .ld_mHL_L => [0x75]
  | .halt => [0x76]
  | .ld_mHL_A => [0x77]
  | .ld_A_B => [0x78]
  | .ld_A_C => [0x79]
  | .ld_A_D => [0x7A]
  | .ld_A_E => [0x7B]
  | .ld_A_H => [0x7C]
  | .ld_A_L => [0x7D]
  | .ld_A_mHL => [0x7E]
  | .ld_A_A => [0x7F]
  | .add_A_B => [0x80]
  | .add_A_C => [0x81]
  | .add_A_D => [0x82]
  | .add_A_E => [0x83]
  | .add_A_H => [0x84]
  | .add_A_L => [0x85]
  | .add_A_mHL => [0x86]
  | .add_A_A => [0x87]
  | .adc_A_B => [0x88]
  | .adc_A_C => [0x89]
  | .adc_A_D => [0x8A]
  | .adc_A_E => [0x8B]
  | .adc_A_H => [0x8C]
  | .adc_A_L => [0x8D]
  | .adc_A_mHL => [0x8E]
  | .adc_A_A => [0x8F]
  | .sub_A_B => [0x90]
  | .sub_A_C => [0x91]
  | .sub_A_D => [0x92]
  | .sub_A_E => [0x93]
  | .sub_A_H => [0x94]
  | .sub_A_L => [0x95]
  | .sub_A_mHL => [0x96]
  | .sub_A_A => [0x97]
  | .sbc_A_B => [0x98]
  | .sbc_A_C => [0x99]
  | .sbc_A_D => [0x9A]
  | .sbc_A_E => [0x9B]
  | .sbc_A_H => [0x9C]
  | .sbc_A_L => [0x9D]
  | .sbc_A_mHL => [0x9E]
  | .sbc_A_A => [0x9F]
  | .and_A_B => [0xA0]
  | .and_A_C => [0xA1]
  | .and_A_D => [0xA2]
  | .and_A_E => [0xA3]
  | .and_A_H => [0xA4]
  | .and_A_L => [0xA5]
  | .and_A_mHL => [0xA6]
  | .and_A_A => [0xA7]
  | .xor_A_B => [0xA8]
  | .xor_A_C => [0xA9]
  | .xor_A_D => [0xAA]
  | .xor_A_E => [0xAB]
  | .xor_A_H => [0xAC]
  | .xor_A_L => [0xAD]
  | .xor_A_mHL => [0xAE]
  | .xor_A_A => [0xAF]
  | .or_A_B => [0xB0]
  | .or_A_C => [0xB1]
  | .or_A_D => [0xB2]
  | .or_A_E => [0xB3]
  | .or_A_H => [0xB4]
  | .or_A_L => [0xB5]
  | .or_A_mHL => [0xB6]
  | .or_A_A => [0xB7]
  | .cp_A_B => [0xB8]
  | .cp_A_C => [0xB9]
  | .cp_A_D => [0xBA]
  | .cp_A_E => [0xBB]
  | .cp_A_H => [0xBC]
  | .cp_A_L => [0xBD]
  | .cp_A_mHL => [0xBE]
  | .cp_A_A => [0xBF]
  | .ret_NZ => [0xC0]
  | .pop_BC => [0xC1]
  | .jp_NZ_a16 n16 => [0xC2, n16.extractLsb' 0 8, n16.extractLsb' 8 8]
  | .jp_a16 n16 => [0xC3, n16.extractLsb' 0 8, n16.extractLsb' 8 8]
  | .call_NZ_a16 n16 => [0xC4, n16.extractLsb' 0 8, n16.extractLsb' 8 8]
  | .push_BC => [0xC5]
  | .add_A_n8 n8 => [0xC6, n8]
  | .rst_00 => [0xC7]
  | .ret_Z => [0xC8]
  | .ret => [0xC9]
  | .jp_Z_a16 n16 => [0xCA, n16.extractLsb' 0 8, n16.extractLsb' 8 8]
  | .prefix_CB op => [0xCB, op]
  | .call_Z_a16 n16 => [0xCC, n16.extractLsb' 0 8, n16.extractLsb' 8 8]
  | .call_a16 n16 => [0xCD, n16.extractLsb' 0 8, n16.extractLsb' 8 8]
  | .adc_A_n8 n8 => [0xCE, n8]
  | .rst_08 => [0xCF]
  | .ret_NC => [0xD0]
  | .pop_DE => [0xD1]
  | .jp_NC_a16 n16 => [0xD2, n16.extractLsb' 0 8, n16.extractLsb' 8 8]
  | .illegal_D3 => [0xD3]
  | .call_NC_a16 n16 => [0xD4, n16.extractLsb' 0 8, n16.extractLsb' 8 8]
  | .push_DE => [0xD5]
  | .sub_A_n8 n8 => [0xD6, n8]
  | .rst_10 => [0xD7]
  | .ret_C => [0xD8]
  | .reti => [0xD9]
  | .jp_C_a16 n16 => [0xDA, n16.extractLsb' 0 8, n16.extractLsb' 8 8]
  | .illegal_DB => [0xDB]
  | .call_C_a16 n16 => [0xDC, n16.extractLsb' 0 8, n16.extractLsb' 8 8]
  | .illegal_DD => [0xDD]
  | .sbc_A_n8 n8 => [0xDE, n8]
  | .rst_18 => [0xDF]
  | .ldh_ma8_A a8 => [0xE0, a8]
  | .pop_HL => [0xE1]
  | .ldh_mC_A => [0xE2]
  | .illegal_E3 => [0xE3]
  | .illegal_E4 => [0xE4]
  | .push_HL => [0xE5]
  | .and_A_n8 n8 => [0xE6, n8]
  | .rst_20 => [0xE7]
  | .add_SP_e8 e8 => [0xE8, e8]
  | .jp_HL => [0xE9]
  | .ld_ma16_A n16 => [0xEA, n16.extractLsb' 0 8, n16.extractLsb' 8 8]
  | .illegal_EB => [0xEB]
  | .illegal_EC => [0xEC]
  | .illegal_ED => [0xED]
  | .xor_A_n8 n8 => [0xEE, n8]
  | .rst_28 => [0xEF]
  | .ldh_A_ma8 a8 => [0xF0, a8]
  | .pop_AF => [0xF1]
  | .ldh_A_mC => [0xF2]
  | .di => [0xF3]
  | .illegal_F4 => [0xF4]
  | .push_AF => [0xF5]
  | .or_A_n8 n8 => [0xF6, n8]
  | .rst_30 => [0xF7]
  | .ld_HL_SPe8 e8 => [0xF8, e8]
  | .ld_SP_HL => [0xF9]
  | .ld_A_ma16 n16 => [0xFA, n16.extractLsb' 0 8, n16.extractLsb' 8 8]
  | .ei => [0xFB]
  | .illegal_FC => [0xFC]
  | .illegal_FD => [0xFD]
  | .cp_A_n8 n8 => [0xFE, n8]
  | .rst_38 => [0xFF]
  | .rlc_B => [0xCB, 0x00]
  | .rlc_C => [0xCB, 0x01]
  | .rlc_D => [0xCB, 0x02]
  | .rlc_E => [0xCB, 0x03]
  | .rlc_H => [0xCB, 0x04]
  | .rlc_L => [0xCB, 0x05]
  | .rlc_mHL => [0xCB, 0x06]
  | .rlc_A => [0xCB, 0x07]
  | .rrc_B => [0xCB, 0x08]
  | .rrc_C => [0xCB, 0x09]
  | .rrc_D => [0xCB, 0x0A]
  | .rrc_E => [0xCB, 0x0B]
  | .rrc_H => [0xCB, 0x0C]
  | .rrc_L => [0xCB, 0x0D]
  | .rrc_mHL => [0xCB, 0x0E]
  | .rrc_A => [0xCB, 0x0F]
  | .rl_B => [0xCB, 0x10]
  | .rl_C => [0xCB, 0x11]
  | .rl_D => [0xCB, 0x12]
  | .rl_E => [0xCB, 0x13]
  | .rl_H => [0xCB, 0x14]
  | .rl_L => [0xCB, 0x15]
  | .rl_mHL => [0xCB, 0x16]
  | .rl_A => [0xCB, 0x17]
  | .rr_B => [0xCB, 0x18]
  | .rr_C => [0xCB, 0x19]
  | .rr_D => [0xCB, 0x1A]
  | .rr_E => [0xCB, 0x1B]
  | .rr_H => [0xCB, 0x1C]
  | .rr_L => [0xCB, 0x1D]
  | .rr_mHL => [0xCB, 0x1E]
  | .rr_A => [0xCB, 0x1F]
  | .sla_B => [0xCB, 0x20]
  | .sla_C => [0xCB, 0x21]
  | .sla_D => [0xCB, 0x22]
  | .sla_E => [0xCB, 0x23]
  | .sla_H => [0xCB, 0x24]
  | .sla_L => [0xCB, 0x25]
  | .sla_mHL => [0xCB, 0x26]
  | .sla_A => [0xCB, 0x27]
  | .sra_B => [0xCB, 0x28]
  | .sra_C => [0xCB, 0x29]
  | .sra_D => [0xCB, 0x2A]
  | .sra_E => [0xCB, 0x2B]
  | .sra_H => [0xCB, 0x2C]
  | .sra_L => [0xCB, 0x2D]
  | .sra_mHL => [0xCB, 0x2E]
  | .sra_A => [0xCB, 0x2F]
  | .swap_B => [0xCB, 0x30]
  | .swap_C => [0xCB, 0x31]
  | .swap_D => [0xCB, 0x32]
  | .swap_E => [0xCB, 0x33]
  | .swap_H => [0xCB, 0x34]
  | .swap_L => [0xCB, 0x35]
  | .swap_mHL => [0xCB, 0x36]
  | .swap_A => [0xCB, 0x37]
  | .srl_B => [0xCB, 0x38]
  | .srl_C => [0xCB, 0x39]
  | .srl_D => [0xCB, 0x3A]
  | .srl_E => [0xCB, 0x3B]
  | .srl_H => [0xCB, 0x3C]
  | .srl_L => [0xCB, 0x3D]
  | .srl_mHL => [0xCB, 0x3E]
  | .srl_A => [0xCB, 0x3F]
  | .bit_0_B => [0xCB, 0x40]
  | .bit_0_C => [0xCB, 0x41]
  | .bit_0_D => [0xCB, 0x42]
  | .bit_0_E => [0xCB, 0x43]
  | .bit_0_H => [0xCB, 0x44]
  | .bit_0_L => [0xCB, 0x45]
  | .bit_0_mHL => [0xCB, 0x46]
  | .bit_0_A => [0xCB, 0x47]
  | .bit_1_B => [0xCB, 0x48]
  | .bit_1_C => [0xCB, 0x49]
  | .bit_1_D => [0xCB, 0x4A]
  | .bit_1_E => [0xCB, 0x4B]
  | .bit_1_H => [0xCB, 0x4C]
  | .bit_1_L => [0xCB, 0x4D]
  | .bit_1_mHL => [0xCB, 0x4E]
  | .bit_1_A => [0xCB, 0x4F]
  | .bit_2_B => [0xCB, 0x50]
  | .bit_2_C => [0xCB, 0x51]
  | .bit_2_D => [0xCB, 0x52]
  | .bit_2_E => [0xCB, 0x53]
  | .bit_2_H => [0xCB, 0x54]
  | .bit_2_L => [0xCB, 0x55]
  | .bit_2_mHL => [0xCB, 0x56]
  | .bit_2_A => [0xCB, 0x57]
  | .bit_3_B => [0xCB, 0x58]
  | .bit_3_C => [0xCB, 0x59]
  | .bit_3_D => [0xCB, 0x5A]
  | .bit_3_E => [0xCB, 0x5B]
  | .bit_3_H => [0xCB, 0x5C]
  | .bit_3_L => [0xCB, 0x5D]
  | .bit_3_mHL => [0xCB, 0x5E]
  | .bit_3_A => [0xCB, 0x5F]
  | .bit_4_B => [0xCB, 0x60]
  | .bit_4_C => [0xCB, 0x61]
  | .bit_4_D => [0xCB, 0x62]
  | .bit_4_E => [0xCB, 0x63]
  | .bit_4_H => [0xCB, 0x64]
  | .bit_4_L => [0xCB, 0x65]
  | .bit_4_mHL => [0xCB, 0x66]
  | .bit_4_A => [0xCB, 0x67]
  | .bit_5_B => [0xCB, 0x68]
  | .bit_5_C => [0xCB, 0x69]
  | .bit_5_D => [0xCB, 0x6A]
  | .bit_5_E => [0xCB, 0x6B]
  | .bit_5_H => [0xCB, 0x6C]
  | .bit_5_L => [0xCB, 0x6D]
  | .bit_5_mHL => [0xCB, 0x6E]
  | .bit_5_A => [0xCB, 0x6F]
  | .bit_6_B => [0xCB, 0x70]
  | .bit_6_C => [0xCB, 0x71]
  | .bit_6_D => [0xCB, 0x72]
  | .bit_6_E => [0xCB, 0x73]
  | .bit_6_H => [0xCB, 0x74]
  | .bit_6_L => [0xCB, 0x75]
  | .bit_6_mHL => [0xCB, 0x76]
  | .bit_6_A => [0xCB, 0x77]
  | .bit_7_B => [0xCB, 0x78]
  | .bit_7_C => [0xCB, 0x79]
  | .bit_7_D => [0xCB, 0x7A]
  | .bit_7_E => [0xCB, 0x7B]
  | .bit_7_H => [0xCB, 0x7C]
  | .bit_7_L => [0xCB, 0x7D]
  | .bit_7_mHL => [0xCB, 0x7E]
  | .bit_7_A => [0xCB, 0x7F]
  | .res_0_B => [0xCB, 0x80]
  | .res_0_C => [0xCB, 0x81]
  | .res_0_D => [0xCB, 0x82]
  | .res_0_E => [0xCB, 0x83]
  | .res_0_H => [0xCB, 0x84]
  | .res_0_L => [0xCB, 0x85]
  | .res_0_mHL => [0xCB, 0x86]
  | .res_0_A => [0xCB, 0x87]
  | .res_1_B => [0xCB, 0x88]
  | .res_1_C => [0xCB, 0x89]
  | .res_1_D => [0xCB, 0x8A]
  | .res_1_E => [0xCB, 0x8B]
  | .res_1_H => [0xCB, 0x8C]
  | .res_1_L => [0xCB, 0x8D]
  | .res_1_mHL => [0xCB, 0x8E]
  | .res_1_A => [0xCB, 0x8F]
  | .res_2_B => [0xCB, 0x90]
  | .res_2_C => [0xCB, 0x91]
  | .res_2_D => [0xCB, 0x92]
  | .res_2_E => [0xCB, 0x93]
  | .res_2_H => [0xCB, 0x94]
  | .res_2_L => [0xCB, 0x95]
  | .res_2_mHL => [0xCB, 0x96]
  | .res_2_A => [0xCB, 0x97]
  | .res_3_B => [0xCB, 0x98]
  | .res_3_C => [0xCB, 0x99]
  | .res_3_D => [0xCB, 0x9A]
  | .res_3_E => [0xCB, 0x9B]
  | .res_3_H => [0xCB, 0x9C]
  | .res_3_L => [0xCB, 0x9D]
  | .res_3_mHL => [0xCB, 0x9E]
  | .res_3_A => [0xCB, 0x9F]
  | .res_4_B => [0xCB, 0xA0]
  | .res_4_C => [0xCB, 0xA1]
  | .res_4_D => [0xCB, 0xA2]
  | .res_4_E => [0xCB, 0xA3]
  | .res_4_H => [0xCB, 0xA4]
  | .res_4_L => [0xCB, 0xA5]
  | .res_4_mHL => [0xCB, 0xA6]
  | .res_4_A => [0xCB, 0xA7]
  | .res_5_B => [0xCB, 0xA8]
  | .res_5_C => [0xCB, 0xA9]
  | .res_5_D => [0xCB, 0xAA]
  | .res_5_E => [0xCB, 0xAB]
  | .res_5_H => [0xCB, 0xAC]
  | .res_5_L => [0xCB, 0xAD]
  | .res_5_mHL => [0xCB, 0xAE]
  | .res_5_A => [0xCB, 0xAF]
  | .res_6_B => [0xCB, 0xB0]
  | .res_6_C => [0xCB, 0xB1]
  | .res_6_D => [0xCB, 0xB2]
  | .res_6_E => [0xCB, 0xB3]
  | .res_6_H => [0xCB, 0xB4]
  | .res_6_L => [0xCB, 0xB5]
  | .res_6_mHL => [0xCB, 0xB6]
  | .res_6_A => [0xCB, 0xB7]
  | .res_7_B => [0xCB, 0xB8]
  | .res_7_C => [0xCB, 0xB9]
  | .res_7_D => [0xCB, 0xBA]
  | .res_7_E => [0xCB, 0xBB]
  | .res_7_H => [0xCB, 0xBC]
  | .res_7_L => [0xCB, 0xBD]
  | .res_7_mHL => [0xCB, 0xBE]
  | .res_7_A => [0xCB, 0xBF]
  | .set_0_B => [0xCB, 0xC0]
  | .set_0_C => [0xCB, 0xC1]
  | .set_0_D => [0xCB, 0xC2]
  | .set_0_E => [0xCB, 0xC3]
  | .set_0_H => [0xCB, 0xC4]
  | .set_0_L => [0xCB, 0xC5]
  | .set_0_mHL => [0xCB, 0xC6]
  | .set_0_A => [0xCB, 0xC7]
  | .set_1_B => [0xCB, 0xC8]
  | .set_1_C => [0xCB, 0xC9]
  | .set_1_D => [0xCB, 0xCA]
  | .set_1_E => [0xCB, 0xCB]
  | .set_1_H => [0xCB, 0xCC]
  | .set_1_L => [0xCB, 0xCD]
  | .set_1_mHL => [0xCB, 0xCE]
  | .set_1_A => [0xCB, 0xCF]
  | .set_2_B => [0xCB, 0xD0]
  | .set_2_C => [0xCB, 0xD1]
  | .set_2_D => [0xCB, 0xD2]
  | .set_2_E => [0xCB, 0xD3]
  | .set_2_H => [0xCB, 0xD4]
  | .set_2_L => [0xCB, 0xD5]
  | .set_2_mHL => [0xCB, 0xD6]
  | .set_2_A => [0xCB, 0xD7]
  | .set_3_B => [0xCB, 0xD8]
  | .set_3_C => [0xCB, 0xD9]
  | .set_3_D => [0xCB, 0xDA]
  | .set_3_E => [0xCB, 0xDB]
  | .set_3_H => [0xCB, 0xDC]
  | .set_3_L => [0xCB, 0xDD]
  | .set_3_mHL => [0xCB, 0xDE]
  | .set_3_A => [0xCB, 0xDF]
  | .set_4_B => [0xCB, 0xE0]
  | .set_4_C => [0xCB, 0xE1]
  | .set_4_D => [0xCB, 0xE2]
  | .set_4_E => [0xCB, 0xE3]
  | .set_4_H => [0xCB, 0xE4]
  | .set_4_L => [0xCB, 0xE5]
  | .set_4_mHL => [0xCB, 0xE6]
  | .set_4_A => [0xCB, 0xE7]
  | .set_5_B => [0xCB, 0xE8]
  | .set_5_C => [0xCB, 0xE9]
  | .set_5_D => [0xCB, 0xEA]
  | .set_5_E => [0xCB, 0xEB]
  | .set_5_H => [0xCB, 0xEC]
  | .set_5_L => [0xCB, 0xED]
  | .set_5_mHL => [0xCB, 0xEE]
  | .set_5_A => [0xCB, 0xEF]
  | .set_6_B => [0xCB, 0xF0]
  | .set_6_C => [0xCB, 0xF1]
  | .set_6_D => [0xCB, 0xF2]
  | .set_6_E => [0xCB, 0xF3]
  | .set_6_H => [0xCB, 0xF4]
  | .set_6_L => [0xCB, 0xF5]
  | .set_6_mHL => [0xCB, 0xF6]
  | .set_6_A => [0xCB, 0xF7]
  | .set_7_B => [0xCB, 0xF8]
  | .set_7_C => [0xCB, 0xF9]
  | .set_7_D => [0xCB, 0xFA]
  | .set_7_E => [0xCB, 0xFB]
  | .set_7_H => [0xCB, 0xFC]
  | .set_7_L => [0xCB, 0xFD]
  | .set_7_mHL => [0xCB, 0xFE]
  | .set_7_A => [0xCB, 0xFF]

end Sys2Proof
end

