-- ==== Sys2Proof/Machine/IncDec.lean ====
section
/-! DEFINITION. 8-bit INC and DEC on a register or the memory byte at HL (spec/43_incdec.md R175 to R178): first the
operations, then one meaning per instruction. -/

namespace Sys2Proof.Machine

/-- Read the operand, write a result computed from it, and set F: the shape of every instruction that changes
its operand in place; on (HL) one bus read, then one bus write (20_memory.md R68). -/
def State.modify (s : State) (o : Operand8) (v : Byte) (f : Flags) : State := { (s.touch o).put o v with f := f }

def State.inc (s : State) (o : Operand8) : State := s.modify o (incResult (s.val o) s.f).1 (incResult (s.val o) s.f).2

def State.dec (s : State) (o : Operand8) : State := s.modify o (decResult (s.val o) s.f).1 (decResult (s.val o) s.f).2

/-! ### The meanings, one per row of the opcode table -/

/-- INC B (R175) -/
def execInc_B (s : State) : Result := .next (s.inc (.reg .b))

/-- DEC B (R177) -/
def execDec_B (s : State) : Result := .next (s.dec (.reg .b))

/-- INC C (R175) -/
def execInc_C (s : State) : Result := .next (s.inc (.reg .c))

/-- DEC C (R177) -/
def execDec_C (s : State) : Result := .next (s.dec (.reg .c))

/-- INC D (R175) -/
def execInc_D (s : State) : Result := .next (s.inc (.reg .d))

/-- DEC D (R177) -/
def execDec_D (s : State) : Result := .next (s.dec (.reg .d))

/-- INC E (R175) -/
def execInc_E (s : State) : Result := .next (s.inc (.reg .e))

/-- DEC E (R177) -/
def execDec_E (s : State) : Result := .next (s.dec (.reg .e))

/-- INC H (R175) -/
def execInc_H (s : State) : Result := .next (s.inc (.reg .h))

/-- DEC H (R177) -/
def execDec_H (s : State) : Result := .next (s.dec (.reg .h))

/-- INC L (R175) -/
def execInc_L (s : State) : Result := .next (s.inc (.reg .l))

/-- DEC L (R177) -/
def execDec_L (s : State) : Result := .next (s.dec (.reg .l))

/-- INC (HL) (R176) -/
def execInc_mHL (s : State) : Result := .next (s.inc .memHL)

/-- DEC (HL) (R178) -/
def execDec_mHL (s : State) : Result := .next (s.dec .memHL)

/-- INC A (R175) -/
def execInc_A (s : State) : Result := .next (s.inc (.reg .a))

/-- DEC A (R177) -/
def execDec_A (s : State) : Result := .next (s.dec (.reg .a))

end Sys2Proof.Machine
end

