-- ==== Sys2Proof/Machine/BitOps.lean ====
section
/-! DEFINITION. BIT, RES and SET (spec/45_bitops.md): first the operations, then one meaning per instruction. -/

namespace Sys2Proof.Machine

/-- BIT writes F only; on (HL) there is one bus read and no bus write (R220, R221). -/
def State.bit (s : State) (b : Fin 8) (o : Operand8) : State := { s.touch o with f := bitFlags b (s.val o) s.f }

/-- RES touches no flag; on (HL) the write is performed even when the byte stays the same (R222, R223). -/
def State.res (s : State) (b : Fin 8) (o : Operand8) : State := (s.touch o).put o (resBit b (s.val o))

/-- SET touches no flag (R224, R225). -/
def State.set (s : State) (b : Fin 8) (o : Operand8) : State := (s.touch o).put o (setBit b (s.val o))

/-! ### The meanings, one per row of the opcode table -/

/-- BIT 0,B (R220) -/
def execBit_0_B (s : State) : Result := .next (s.bit 0 (.reg .b))

/-- BIT 0,C (R220) -/
def execBit_0_C (s : State) : Result := .next (s.bit 0 (.reg .c))

/-- BIT 0,D (R220) -/
def execBit_0_D (s : State) : Result := .next (s.bit 0 (.reg .d))

/-- BIT 0,E (R220) -/
def execBit_0_E (s : State) : Result := .next (s.bit 0 (.reg .e))

/-- BIT 0,H (R220) -/
def execBit_0_H (s : State) : Result := .next (s.bit 0 (.reg .h))

/-- BIT 0,L (R220) -/
def execBit_0_L (s : State) : Result := .next (s.bit 0 (.reg .l))

/-- BIT 0,(HL) (R221) -/
def execBit_0_mHL (s : State) : Result := .next (s.bit 0 .memHL)

/-- BIT 0,A (R220) -/
def execBit_0_A (s : State) : Result := .next (s.bit 0 (.reg .a))

/-- BIT 1,B (R220) -/
def execBit_1_B (s : State) : Result := .next (s.bit 1 (.reg .b))

/-- BIT 1,C (R220) -/
def execBit_1_C (s : State) : Result := .next (s.bit 1 (.reg .c))

/-- BIT 1,D (R220) -/
def execBit_1_D (s : State) : Result := .next (s.bit 1 (.reg .d))

/-- BIT 1,E (R220) -/
def execBit_1_E (s : State) : Result := .next (s.bit 1 (.reg .e))

/-- BIT 1,H (R220) -/
def execBit_1_H (s : State) : Result := .next (s.bit 1 (.reg .h))

/-- BIT 1,L (R220) -/
def execBit_1_L (s : State) : Result := .next (s.bit 1 (.reg .l))

/-- BIT 1,(HL) (R221) -/
def execBit_1_mHL (s : State) : Result := .next (s.bit 1 .memHL)

/-- BIT 1,A (R220) -/
def execBit_1_A (s : State) : Result := .next (s.bit 1 (.reg .a))

/-- BIT 2,B (R220) -/
def execBit_2_B (s : State) : Result := .next (s.bit 2 (.reg .b))

/-- BIT 2,C (R220) -/
def execBit_2_C (s : State) : Result := .next (s.bit 2 (.reg .c))

/-- BIT 2,D (R220) -/
def execBit_2_D (s : State) : Result := .next (s.bit 2 (.reg .d))

/-- BIT 2,E (R220) -/
def execBit_2_E (s : State) : Result := .next (s.bit 2 (.reg .e))

/-- BIT 2,H (R220) -/
def execBit_2_H (s : State) : Result := .next (s.bit 2 (.reg .h))

/-- BIT 2,L (R220) -/
def execBit_2_L (s : State) : Result := .next (s.bit 2 (.reg .l))

/-- BIT 2,(HL) (R221) -/
def execBit_2_mHL (s : State) : Result := .next (s.bit 2 .memHL)

/-- BIT 2,A (R220) -/
def execBit_2_A (s : State) : Result := .next (s.bit 2 (.reg .a))

/-- BIT 3,B (R220) -/
def execBit_3_B (s : State) : Result := .next (s.bit 3 (.reg .b))

/-- BIT 3,C (R220) -/
def execBit_3_C (s : State) : Result := .next (s.bit 3 (.reg .c))

/-- BIT 3,D (R220) -/
def execBit_3_D (s : State) : Result := .next (s.bit 3 (.reg .d))

/-- BIT 3,E (R220) -/
def execBit_3_E (s : State) : Result := .next (s.bit 3 (.reg .e))

/-- BIT 3,H (R220) -/
def execBit_3_H (s : State) : Result := .next (s.bit 3 (.reg .h))

/-- BIT 3,L (R220) -/
def execBit_3_L (s : State) : Result := .next (s.bit 3 (.reg .l))

/-- BIT 3,(HL) (R221) -/
def execBit_3_mHL (s : State) : Result := .next (s.bit 3 .memHL)

/-- BIT 3,A (R220) -/
def execBit_3_A (s : State) : Result := .next (s.bit 3 (.reg .a))

/-- BIT 4,B (R220) -/
def execBit_4_B (s : State) : Result := .next (s.bit 4 (.reg .b))

/-- BIT 4,C (R220) -/
def execBit_4_C (s : State) : Result := .next (s.bit 4 (.reg .c))

/-- BIT 4,D (R220) -/
def execBit_4_D (s : State) : Result := .next (s.bit 4 (.reg .d))

/-- BIT 4,E (R220) -/
def execBit_4_E (s : State) : Result := .next (s.bit 4 (.reg .e))

/-- BIT 4,H (R220) -/
def execBit_4_H (s : State) : Result := .next (s.bit 4 (.reg .h))

/-- BIT 4,L (R220) -/
def execBit_4_L (s : State) : Result := .next (s.bit 4 (.reg .l))

/-- BIT 4,(HL) (R221) -/
def execBit_4_mHL (s : State) : Result := .next (s.bit 4 .memHL)

/-- BIT 4,A (R220) -/
def execBit_4_A (s : State) : Result := .next (s.bit 4 (.reg .a))

/-- BIT 5,B (R220) -/
def execBit_5_B (s : State) : Result := .next (s.bit 5 (.reg .b))

/-- BIT 5,C (R220) -/
def execBit_5_C (s : State) : Result := .next (s.bit 5 (.reg .c))

/-- BIT 5,D (R220) -/
def execBit_5_D (s : State) : Result := .next (s.bit 5 (.reg .d))

/-- BIT 5,E (R220) -/
def execBit_5_E (s : State) : Result := .next (s.bit 5 (.reg .e))

/-- BIT 5,H (R220) -/
def execBit_5_H (s : State) : Result := .next (s.bit 5 (.reg .h))

/-- BIT 5,L (R220) -/
def execBit_5_L (s : State) : Result := .next (s.bit 5 (.reg .l))

/-- BIT 5,(HL) (R221) -/
def execBit_5_mHL (s : State) : Result := .next (s.bit 5 .memHL)

/-- BIT 5,A (R220) -/
def execBit_5_A (s : State) : Result := .next (s.bit 5 (.reg .a))

/-- BIT 6,B (R220) -/
def execBit_6_B (s : State) : Result := .next (s.bit 6 (.reg .b))

/-- BIT 6,C (R220) -/
def execBit_6_C (s : State) : Result := .next (s.bit 6 (.reg .c))

/-- BIT 6,D (R220) -/
def execBit_6_D (s : State) : Result := .next (s.bit 6 (.reg .d))

/-- BIT 6,E (R220) -/
def execBit_6_E (s : State) : Result := .next (s.bit 6 (.reg .e))

/-- BIT 6,H (R220) -/
def execBit_6_H (s : State) : Result := .next (s.bit 6 (.reg .h))

/-- BIT 6,L (R220) -/
def execBit_6_L (s : State) : Result := .next (s.bit 6 (.reg .l))

/-- BIT 6,(HL) (R221) -/
def execBit_6_mHL (s : State) : Result := .next (s.bit 6 .memHL)

/-- BIT 6,A (R220) -/
def execBit_6_A (s : State) : Result := .next (s.bit 6 (.reg .a))

/-- BIT 7,B (R220) -/
def execBit_7_B (s : State) : Result := .next (s.bit 7 (.reg .b))

/-- BIT 7,C (R220) -/
def execBit_7_C (s : State) : Result := .next (s.bit 7 (.reg .c))

/-- BIT 7,D (R220) -/
def execBit_7_D (s : State) : Result := .next (s.bit 7 (.reg .d))

/-- BIT 7,E (R220) -/
def execBit_7_E (s : State) : Result := .next (s.bit 7 (.reg .e))

/-- BIT 7,H (R220) -/
def execBit_7_H (s : State) : Result := .next (s.bit 7 (.reg .h))

/-- BIT 7,L (R220) -/
def execBit_7_L (s : State) : Result := .next (s.bit 7 (.reg .l))

/-- BIT 7,(HL) (R221) -/
def execBit_7_mHL (s : State) : Result := .next (s.bit 7 .memHL)

/-- BIT 7,A (R220) -/
def execBit_7_A (s : State) : Result := .next (s.bit 7 (.reg .a))

/-- RES 0,B (R222) -/
def execRes_0_B (s : State) : Result := .next (s.res 0 (.reg .b))

/-- RES 0,C (R222) -/
def execRes_0_C (s : State) : Result := .next (s.res 0 (.reg .c))

/-- RES 0,D (R222) -/
def execRes_0_D (s : State) : Result := .next (s.res 0 (.reg .d))

/-- RES 0,E (R222) -/
def execRes_0_E (s : State) : Result := .next (s.res 0 (.reg .e))

/-- RES 0,H (R222) -/
def execRes_0_H (s : State) : Result := .next (s.res 0 (.reg .h))

/-- RES 0,L (R222) -/
def execRes_0_L (s : State) : Result := .next (s.res 0 (.reg .l))

/-- RES 0,(HL) (R223) -/
def execRes_0_mHL (s : State) : Result := .next (s.res 0 .memHL)

/-- RES 0,A (R222) -/
def execRes_0_A (s : State) : Result := .next (s.res 0 (.reg .a))

/-- RES 1,B (R222) -/
def execRes_1_B (s : State) : Result := .next (s.res 1 (.reg .b))

/-- RES 1,C (R222) -/
def execRes_1_C (s : State) : Result := .next (s.res 1 (.reg .c))

/-- RES 1,D (R222) -/
def execRes_1_D (s : State) : Result := .next (s.res 1 (.reg .d))

/-- RES 1,E (R222) -/
def execRes_1_E (s : State) : Result := .next (s.res 1 (.reg .e))

/-- RES 1,H (R222) -/
def execRes_1_H (s : State) : Result := .next (s.res 1 (.reg .h))

/-- RES 1,L (R222) -/
def execRes_1_L (s : State) : Result := .next (s.res 1 (.reg .l))

/-- RES 1,(HL) (R223) -/
def execRes_1_mHL (s : State) : Result := .next (s.res 1 .memHL)

/-- RES 1,A (R222) -/
def execRes_1_A (s : State) : Result := .next (s.res 1 (.reg .a))

/-- RES 2,B (R222) -/
def execRes_2_B (s : State) : Result := .next (s.res 2 (.reg .b))

/-- RES 2,C (R222) -/
def execRes_2_C (s : State) : Result := .next (s.res 2 (.reg .c))

/-- RES 2,D (R222) -/
def execRes_2_D (s : State) : Result := .next (s.res 2 (.reg .d))

/-- RES 2,E (R222) -/
def execRes_2_E (s : State) : Result := .next (s.res 2 (.reg .e))

/-- RES 2,H (R222) -/
def execRes_2_H (s : State) : Result := .next (s.res 2 (.reg .h))

/-- RES 2,L (R222) -/
def execRes_2_L (s : State) : Result := .next (s.res 2 (.reg .l))

/-- RES 2,(HL) (R223) -/
def execRes_2_mHL (s : State) : Result := .next (s.res 2 .memHL)

/-- RES 2,A (R222) -/
def execRes_2_A (s : State) : Result := .next (s.res 2 (.reg .a))

/-- RES 3,B (R222) -/
def execRes_3_B (s : State) : Result := .next (s.res 3 (.reg .b))

/-- RES 3,C (R222) -/
def execRes_3_C (s : State) : Result := .next (s.res 3 (.reg .c))

/-- RES 3,D (R222) -/
def execRes_3_D (s : State) : Result := .next (s.res 3 (.reg .d))

/-- RES 3,E (R222) -/
def execRes_3_E (s : State) : Result := .next (s.res 3 (.reg .e))

/-- RES 3,H (R222) -/
def execRes_3_H (s : State) : Result := .next (s.res 3 (.reg .h))

/-- RES 3,L (R222) -/
def execRes_3_L (s : State) : Result := .next (s.res 3 (.reg .l))

/-- RES 3,(HL) (R223) -/
def execRes_3_mHL (s : State) : Result := .next (s.res 3 .memHL)

/-- RES 3,A (R222) -/
def execRes_3_A (s : State) : Result := .next (s.res 3 (.reg .a))

/-- RES 4,B (R222) -/
def execRes_4_B (s : State) : Result := .next (s.res 4 (.reg .b))

/-- RES 4,C (R222) -/
def execRes_4_C (s : State) : Result := .next (s.res 4 (.reg .c))

/-- RES 4,D (R222) -/
def execRes_4_D (s : State) : Result := .next (s.res 4 (.reg .d))

/-- RES 4,E (R222) -/
def execRes_4_E (s : State) : Result := .next (s.res 4 (.reg .e))

/-- RES 4,H (R222) -/
def execRes_4_H (s : State) : Result := .next (s.res 4 (.reg .h))

/-- RES 4,L (R222) -/
def execRes_4_L (s : State) : Result := .next (s.res 4 (.reg .l))

/-- RES 4,(HL) (R223) -/
def execRes_4_mHL (s : State) : Result := .next (s.res 4 .memHL)

/-- RES 4,A (R222) -/
def execRes_4_A (s : State) : Result := .next (s.res 4 (.reg .a))

/-- RES 5,B (R222) -/
def execRes_5_B (s : State) : Result := .next (s.res 5 (.reg .b))

/-- RES 5,C (R222) -/
def execRes_5_C (s : State) : Result := .next (s.res 5 (.reg .c))

/-- RES 5,D (R222) -/
def execRes_5_D (s : State) : Result := .next (s.res 5 (.reg .d))

/-- RES 5,E (R222) -/
def execRes_5_E (s : State) : Result := .next (s.res 5 (.reg .e))

/-- RES 5,H (R222) -/
def execRes_5_H (s : State) : Result := .next (s.res 5 (.reg .h))

/-- RES 5,L (R222) -/
def execRes_5_L (s : State) : Result := .next (s.res 5 (.reg .l))

/-- RES 5,(HL) (R223) -/
def execRes_5_mHL (s : State) : Result := .next (s.res 5 .memHL)

/-- RES 5,A (R222) -/
def execRes_5_A (s : State) : Result := .next (s.res 5 (.reg .a))

/-- RES 6,B (R222) -/
def execRes_6_B (s : State) : Result := .next (s.res 6 (.reg .b))

/-- RES 6,C (R222) -/
def execRes_6_C (s : State) : Result := .next (s.res 6 (.reg .c))

/-- RES 6,D (R222) -/
def execRes_6_D (s : State) : Result := .next (s.res 6 (.reg .d))

/-- RES 6,E (R222) -/
def execRes_6_E (s : State) : Result := .next (s.res 6 (.reg .e))

/-- RES 6,H (R222) -/
def execRes_6_H (s : State) : Result := .next (s.res 6 (.reg .h))

/-- RES 6,L (R222) -/
def execRes_6_L (s : State) : Result := .next (s.res 6 (.reg .l))

/-- RES 6,(HL) (R223) -/
def execRes_6_mHL (s : State) : Result := .next (s.res 6 .memHL)

/-- RES 6,A (R222) -/
def execRes_6_A (s : State) : Result := .next (s.res 6 (.reg .a))

/-- RES 7,B (R222) -/
def execRes_7_B (s : State) : Result := .next (s.res 7 (.reg .b))

/-- RES 7,C (R222) -/
def execRes_7_C (s : State) : Result := .next (s.res 7 (.reg .c))

/-- RES 7,D (R222) -/
def execRes_7_D (s : State) : Result := .next (s.res 7 (.reg .d))

/-- RES 7,E (R222) -/
def execRes_7_E (s : State) : Result := .next (s.res 7 (.reg .e))

/-- RES 7,H (R222) -/
def execRes_7_H (s : State) : Result := .next (s.res 7 (.reg .h))

/-- RES 7,L (R222) -/
def execRes_7_L (s : State) : Result := .next (s.res 7 (.reg .l))

/-- RES 7,(HL) (R223) -/
def execRes_7_mHL (s : State) : Result := .next (s.res 7 .memHL)

/-- RES 7,A (R222) -/
def execRes_7_A (s : State) : Result := .next (s.res 7 (.reg .a))

/-- SET 0,B (R224) -/
def execSet_0_B (s : State) : Result := .next (s.set 0 (.reg .b))

/-- SET 0,C (R224) -/
def execSet_0_C (s : State) : Result := .next (s.set 0 (.reg .c))

/-- SET 0,D (R224) -/
def execSet_0_D (s : State) : Result := .next (s.set 0 (.reg .d))

/-- SET 0,E (R224) -/
def execSet_0_E (s : State) : Result := .next (s.set 0 (.reg .e))

/-- SET 0,H (R224) -/
def execSet_0_H (s : State) : Result := .next (s.set 0 (.reg .h))

/-- SET 0,L (R224) -/
def execSet_0_L (s : State) : Result := .next (s.set 0 (.reg .l))

/-- SET 0,(HL) (R225) -/
def execSet_0_mHL (s : State) : Result := .next (s.set 0 .memHL)

/-- SET 0,A (R224) -/
def execSet_0_A (s : State) : Result := .next (s.set 0 (.reg .a))

/-- SET 1,B (R224) -/
def execSet_1_B (s : State) : Result := .next (s.set 1 (.reg .b))

/-- SET 1,C (R224) -/
def execSet_1_C (s : State) : Result := .next (s.set 1 (.reg .c))

/-- SET 1,D (R224) -/
def execSet_1_D (s : State) : Result := .next (s.set 1 (.reg .d))

/-- SET 1,E (R224) -/
def execSet_1_E (s : State) : Result := .next (s.set 1 (.reg .e))

/-- SET 1,H (R224) -/
def execSet_1_H (s : State) : Result := .next (s.set 1 (.reg .h))

/-- SET 1,L (R224) -/
def execSet_1_L (s : State) : Result := .next (s.set 1 (.reg .l))

/-- SET 1,(HL) (R225) -/
def execSet_1_mHL (s : State) : Result := .next (s.set 1 .memHL)

/-- SET 1,A (R224) -/
def execSet_1_A (s : State) : Result := .next (s.set 1 (.reg .a))

/-- SET 2,B (R224) -/
def execSet_2_B (s : State) : Result := .next (s.set 2 (.reg .b))

/-- SET 2,C (R224) -/
def execSet_2_C (s : State) : Result := .next (s.set 2 (.reg .c))

/-- SET 2,D (R224) -/
def execSet_2_D (s : State) : Result := .next (s.set 2 (.reg .d))

/-- SET 2,E (R224) -/
def execSet_2_E (s : State) : Result := .next (s.set 2 (.reg .e))

/-- SET 2,H (R224) -/
def execSet_2_H (s : State) : Result := .next (s.set 2 (.reg .h))

/-- SET 2,L (R224) -/
def execSet_2_L (s : State) : Result := .next (s.set 2 (.reg .l))

/-- SET 2,(HL) (R225) -/
def execSet_2_mHL (s : State) : Result := .next (s.set 2 .memHL)

/-- SET 2,A (R224) -/
def execSet_2_A (s : State) : Result := .next (s.set 2 (.reg .a))

/-- SET 3,B (R224) -/
def execSet_3_B (s : State) : Result := .next (s.set 3 (.reg .b))

/-- SET 3,C (R224) -/
def execSet_3_C (s : State) : Result := .next (s.set 3 (.reg .c))

/-- SET 3,D (R224) -/
def execSet_3_D (s : State) : Result := .next (s.set 3 (.reg .d))

/-- SET 3,E (R224) -/
def execSet_3_E (s : State) : Result := .next (s.set 3 (.reg .e))

/-- SET 3,H (R224) -/
def execSet_3_H (s : State) : Result := .next (s.set 3 (.reg .h))

/-- SET 3,L (R224) -/
def execSet_3_L (s : State) : Result := .next (s.set 3 (.reg .l))

/-- SET 3,(HL) (R225) -/
def execSet_3_mHL (s : State) : Result := .next (s.set 3 .memHL)

/-- SET 3,A (R224) -/
def execSet_3_A (s : State) : Result := .next (s.set 3 (.reg .a))

/-- SET 4,B (R224) -/
def execSet_4_B (s : State) : Result := .next (s.set 4 (.reg .b))

/-- SET 4,C (R224) -/
def execSet_4_C (s : State) : Result := .next (s.set 4 (.reg .c))

/-- SET 4,D (R224) -/
def execSet_4_D (s : State) : Result := .next (s.set 4 (.reg .d))

/-- SET 4,E (R224) -/
def execSet_4_E (s : State) : Result := .next (s.set 4 (.reg .e))

/-- SET 4,H (R224) -/
def execSet_4_H (s : State) : Result := .next (s.set 4 (.reg .h))

/-- SET 4,L (R224) -/
def execSet_4_L (s : State) : Result := .next (s.set 4 (.reg .l))

/-- SET 4,(HL) (R225) -/
def execSet_4_mHL (s : State) : Result := .next (s.set 4 .memHL)

/-- SET 4,A (R224) -/
def execSet_4_A (s : State) : Result := .next (s.set 4 (.reg .a))

/-- SET 5,B (R224) -/
def execSet_5_B (s : State) : Result := .next (s.set 5 (.reg .b))

/-- SET 5,C (R224) -/
def execSet_5_C (s : State) : Result := .next (s.set 5 (.reg .c))

/-- SET 5,D (R224) -/
def execSet_5_D (s : State) : Result := .next (s.set 5 (.reg .d))

/-- SET 5,E (R224) -/
def execSet_5_E (s : State) : Result := .next (s.set 5 (.reg .e))

/-- SET 5,H (R224) -/
def execSet_5_H (s : State) : Result := .next (s.set 5 (.reg .h))

/-- SET 5,L (R224) -/
def execSet_5_L (s : State) : Result := .next (s.set 5 (.reg .l))

/-- SET 5,(HL) (R225) -/
def execSet_5_mHL (s : State) : Result := .next (s.set 5 .memHL)

/-- SET 5,A (R224) -/
def execSet_5_A (s : State) : Result := .next (s.set 5 (.reg .a))

/-- SET 6,B (R224) -/
def execSet_6_B (s : State) : Result := .next (s.set 6 (.reg .b))

/-- SET 6,C (R224) -/
def execSet_6_C (s : State) : Result := .next (s.set 6 (.reg .c))

/-- SET 6,D (R224) -/
def execSet_6_D (s : State) : Result := .next (s.set 6 (.reg .d))

/-- SET 6,E (R224) -/
def execSet_6_E (s : State) : Result := .next (s.set 6 (.reg .e))

/-- SET 6,H (R224) -/
def execSet_6_H (s : State) : Result := .next (s.set 6 (.reg .h))

/-- SET 6,L (R224) -/
def execSet_6_L (s : State) : Result := .next (s.set 6 (.reg .l))

/-- SET 6,(HL) (R225) -/
def execSet_6_mHL (s : State) : Result := .next (s.set 6 .memHL)

/-- SET 6,A (R224) -/
def execSet_6_A (s : State) : Result := .next (s.set 6 (.reg .a))

/-- SET 7,B (R224) -/
def execSet_7_B (s : State) : Result := .next (s.set 7 (.reg .b))

/-- SET 7,C (R224) -/
def execSet_7_C (s : State) : Result := .next (s.set 7 (.reg .c))

/-- SET 7,D (R224) -/
def execSet_7_D (s : State) : Result := .next (s.set 7 (.reg .d))

/-- SET 7,E (R224) -/
def execSet_7_E (s : State) : Result := .next (s.set 7 (.reg .e))

/-- SET 7,H (R224) -/
def execSet_7_H (s : State) : Result := .next (s.set 7 (.reg .h))

/-- SET 7,L (R224) -/
def execSet_7_L (s : State) : Result := .next (s.set 7 (.reg .l))

/-- SET 7,(HL) (R225) -/
def execSet_7_mHL (s : State) : Result := .next (s.set 7 .memHL)

/-- SET 7,A (R224) -/
def execSet_7_A (s : State) : Result := .next (s.set 7 (.reg .a))

end Sys2Proof.Machine
end

