-- ==== Sys2Proof/Machine/Rotate.lean ====
section
/-! DEFINITION. Rotates and shifts (spec/44_rotate_shift.md): first the operations, then one meaning per
instruction. -/

namespace Sys2Proof.Machine

/-- A CB rotate or shift of a register or the memory byte at HL (R195 to R210). -/
def State.rot (s : State) (op : RotOp) (o : Operand8) : State :=
  s.modify o (rotate op (s.val o) s.f.c).1 (rotFlags (rotate op (s.val o) s.f.c))

/-- An accumulator short form: Z is always cleared (R191 to R194). -/
def State.rotA (s : State) (op : RotOp) : State :=
  { s with a := (rotate op s.a s.f.c).1, f := accRotFlags (rotate op s.a s.f.c) }

/-! ### The meanings, one per row of the opcode table -/

/-- RLCA (R191) -/
def execRlca (s : State) : Result := .next (s.rotA .rlc)

/-- RRCA (R192) -/
def execRrca (s : State) : Result := .next (s.rotA .rrc)

/-- RLA (R193) -/
def execRla (s : State) : Result := .next (s.rotA .rl)

/-- RRA (R194) -/
def execRra (s : State) : Result := .next (s.rotA .rr)

/-- RLC B (R195) -/
def execRlc_B (s : State) : Result := .next (s.rot .rlc (.reg .b))

/-- RLC C (R195) -/
def execRlc_C (s : State) : Result := .next (s.rot .rlc (.reg .c))

/-- RLC D (R195) -/
def execRlc_D (s : State) : Result := .next (s.rot .rlc (.reg .d))

/-- RLC E (R195) -/
def execRlc_E (s : State) : Result := .next (s.rot .rlc (.reg .e))

/-- RLC H (R195) -/
def execRlc_H (s : State) : Result := .next (s.rot .rlc (.reg .h))

/-- RLC L (R195) -/
def execRlc_L (s : State) : Result := .next (s.rot .rlc (.reg .l))

/-- RLC (HL) (R196) -/
def execRlc_mHL (s : State) : Result := .next (s.rot .rlc .memHL)

/-- RLC A (R195) -/
def execRlc_A (s : State) : Result := .next (s.rot .rlc (.reg .a))

/-- RRC B (R197) -/
def execRrc_B (s : State) : Result := .next (s.rot .rrc (.reg .b))

/-- RRC C (R197) -/
def execRrc_C (s : State) : Result := .next (s.rot .rrc (.reg .c))

/-- RRC D (R197) -/
def execRrc_D (s : State) : Result := .next (s.rot .rrc (.reg .d))

/-- RRC E (R197) -/
def execRrc_E (s : State) : Result := .next (s.rot .rrc (.reg .e))

/-- RRC H (R197) -/
def execRrc_H (s : State) : Result := .next (s.rot .rrc (.reg .h))

/-- RRC L (R197) -/
def execRrc_L (s : State) : Result := .next (s.rot .rrc (.reg .l))

/-- RRC (HL) (R198) -/
def execRrc_mHL (s : State) : Result := .next (s.rot .rrc .memHL)

/-- RRC A (R197) -/
def execRrc_A (s : State) : Result := .next (s.rot .rrc (.reg .a))

/-- RL B (R199) -/
def execRl_B (s : State) : Result := .next (s.rot .rl (.reg .b))

/-- RL C (R199) -/
def execRl_C (s : State) : Result := .next (s.rot .rl (.reg .c))

/-- RL D (R199) -/
def execRl_D (s : State) : Result := .next (s.rot .rl (.reg .d))

/-- RL E (R199) -/
def execRl_E (s : State) : Result := .next (s.rot .rl (.reg .e))

/-- RL H (R199) -/
def execRl_H (s : State) : Result := .next (s.rot .rl (.reg .h))

/-- RL L (R199) -/
def execRl_L (s : State) : Result := .next (s.rot .rl (.reg .l))

/-- RL (HL) (R200) -/
def execRl_mHL (s : State) : Result := .next (s.rot .rl .memHL)

/-- RL A (R199) -/
def execRl_A (s : State) : Result := .next (s.rot .rl (.reg .a))

/-- RR B (R201) -/
def execRr_B (s : State) : Result := .next (s.rot .rr (.reg .b))

/-- RR C (R201) -/
def execRr_C (s : State) : Result := .next (s.rot .rr (.reg .c))

/-- RR D (R201) -/
def execRr_D (s : State) : Result := .next (s.rot .rr (.reg .d))

/-- RR E (R201) -/
def execRr_E (s : State) : Result := .next (s.rot .rr (.reg .e))

/-- RR H (R201) -/
def execRr_H (s : State) : Result := .next (s.rot .rr (.reg .h))

/-- RR L (R201) -/
def execRr_L (s : State) : Result := .next (s.rot .rr (.reg .l))

/-- RR (HL) (R202) -/
def execRr_mHL (s : State) : Result := .next (s.rot .rr .memHL)

/-- RR A (R201) -/
def execRr_A (s : State) : Result := .next (s.rot .rr (.reg .a))

/-- SLA B (R203) -/
def execSla_B (s : State) : Result := .next (s.rot .sla (.reg .b))

/-- SLA C (R203) -/
def execSla_C (s : State) : Result := .next (s.rot .sla (.reg .c))

/-- SLA D (R203) -/
def execSla_D (s : State) : Result := .next (s.rot .sla (.reg .d))

/-- SLA E (R203) -/
def execSla_E (s : State) : Result := .next (s.rot .sla (.reg .e))

/-- SLA H (R203) -/
def execSla_H (s : State) : Result := .next (s.rot .sla (.reg .h))

/-- SLA L (R203) -/
def execSla_L (s : State) : Result := .next (s.rot .sla (.reg .l))

/-- SLA (HL) (R204) -/
def execSla_mHL (s : State) : Result := .next (s.rot .sla .memHL)

/-- SLA A (R203) -/
def execSla_A (s : State) : Result := .next (s.rot .sla (.reg .a))

/-- SRA B (R205) -/
def execSra_B (s : State) : Result := .next (s.rot .sra (.reg .b))

/-- SRA C (R205) -/
def execSra_C (s : State) : Result := .next (s.rot .sra (.reg .c))

/-- SRA D (R205) -/
def execSra_D (s : State) : Result := .next (s.rot .sra (.reg .d))

/-- SRA E (R205) -/
def execSra_E (s : State) : Result := .next (s.rot .sra (.reg .e))

/-- SRA H (R205) -/
def execSra_H (s : State) : Result := .next (s.rot .sra (.reg .h))

/-- SRA L (R205) -/
def execSra_L (s : State) : Result := .next (s.rot .sra (.reg .l))

/-- SRA (HL) (R206) -/
def execSra_mHL (s : State) : Result := .next (s.rot .sra .memHL)

/-- SRA A (R205) -/
def execSra_A (s : State) : Result := .next (s.rot .sra (.reg .a))

/-- SWAP B (R207) -/
def execSwap_B (s : State) : Result := .next (s.rot .swap (.reg .b))

/-- SWAP C (R207) -/
def execSwap_C (s : State) : Result := .next (s.rot .swap (.reg .c))

/-- SWAP D (R207) -/
def execSwap_D (s : State) : Result := .next (s.rot .swap (.reg .d))

/-- SWAP E (R207) -/
def execSwap_E (s : State) : Result := .next (s.rot .swap (.reg .e))

/-- SWAP H (R207) -/
def execSwap_H (s : State) : Result := .next (s.rot .swap (.reg .h))

/-- SWAP L (R207) -/
def execSwap_L (s : State) : Result := .next (s.rot .swap (.reg .l))

/-- SWAP (HL) (R208) -/
def execSwap_mHL (s : State) : Result := .next (s.rot .swap .memHL)

/-- SWAP A (R207) -/
def execSwap_A (s : State) : Result := .next (s.rot .swap (.reg .a))

/-- SRL B (R209) -/
def execSrl_B (s : State) : Result := .next (s.rot .srl (.reg .b))

/-- SRL C (R209) -/
def execSrl_C (s : State) : Result := .next (s.rot .srl (.reg .c))

/-- SRL D (R209) -/
def execSrl_D (s : State) : Result := .next (s.rot .srl (.reg .d))

/-- SRL E (R209) -/
def execSrl_E (s : State) : Result := .next (s.rot .srl (.reg .e))

/-- SRL H (R209) -/
def execSrl_H (s : State) : Result := .next (s.rot .srl (.reg .h))

/-- SRL L (R209) -/
def execSrl_L (s : State) : Result := .next (s.rot .srl (.reg .l))

/-- SRL (HL) (R210) -/
def execSrl_mHL (s : State) : Result := .next (s.rot .srl .memHL)

/-- SRL A (R209) -/
def execSrl_A (s : State) : Result := .next (s.rot .srl (.reg .a))

end Sys2Proof.Machine
end

