-- ==== Sys2Proof/Machine/System.lean ====
section
/-! DEFINITION. NOP, DI, EI, HALT, STOP, the prefix byte and the bytes without an instruction
(spec/48_system.md). -/

namespace Sys2Proof.Machine

/-- NOP (R260). -/
def execNop (s : State) : Result := .next s

/-- DI: also cancels an enable still pending (R261, D13). -/
def execDi (s : State) : Result := .next { s with ime := false, pendingEnable := false }

/-- EI: only flags the enable; the driver promotes it (R262, R303). -/
def execEi (s : State) : Result := .next { s with pendingEnable := true }

/-- HALT, its three cases; `irq` is the sample of this step (R263). -/
def execHalt (s : State) : Result :=
  .next (if s.ime || s.irq == 0 then { s with lowPower := true } else { s with haltBug := true })

/-- STOP: the pad byte is ignored (R264). -/
def execStop (_pad : Byte) (s : State) : Result := .next { s with lowPower := true }

/-- What the CB-table entry of the byte `op` does, by its fields x, y, z (30_encoding.md R107). -/
def State.cbEffect (s : State) (op : Byte) : State :=
  match fieldX op with
  | 0 => s.rot (RotOp.ofField (fieldY op)) (Operand8.ofField (fieldZ op))
  | 1 => s.bit (Fin.ofNat 8 (fieldY op)) (Operand8.ofField (fieldZ op))
  | 2 => s.res (Fin.ofNat 8 (fieldY op)) (Operand8.ofField (fieldZ op))
  | _ => s.set (Fin.ofNat 8 (fieldY op)) (Operand8.ofField (fieldZ op))

/-- PREFIX CB is the escape into the CB table: the pair does what the entry of its second byte does (R265).
The decoder never answers this row (30_encoding.md R115; DEDUCED, log entry 8). -/
def execPrefix_CB (op : Byte) (s : State) : Result := .next (s.cbEffect op)

/-! ### The meanings, one per row of the opcode table -/

/-- ILLEGAL_D3 (R266) -/
def execIllegal_D3 (s : State) : Result := .next (s.raiseUnknownOpcode 0xD3)

/-- ILLEGAL_DB (R266) -/
def execIllegal_DB (s : State) : Result := .next (s.raiseUnknownOpcode 0xDB)

/-- ILLEGAL_DD (R266) -/
def execIllegal_DD (s : State) : Result := .next (s.raiseUnknownOpcode 0xDD)

/-- ILLEGAL_E3 (R266) -/
def execIllegal_E3 (s : State) : Result := .next (s.raiseUnknownOpcode 0xE3)

/-- ILLEGAL_E4 (R266) -/
def execIllegal_E4 (s : State) : Result := .next (s.raiseUnknownOpcode 0xE4)

/-- ILLEGAL_EB (R266) -/
def execIllegal_EB (s : State) : Result := .next (s.raiseUnknownOpcode 0xEB)

/-- ILLEGAL_EC (R266) -/
def execIllegal_EC (s : State) : Result := .next (s.raiseUnknownOpcode 0xEC)

/-- ILLEGAL_ED (R266) -/
def execIllegal_ED (s : State) : Result := .next (s.raiseUnknownOpcode 0xED)

/-- ILLEGAL_F4 (R266) -/
def execIllegal_F4 (s : State) : Result := .next (s.raiseUnknownOpcode 0xF4)

/-- ILLEGAL_FC (R266) -/
def execIllegal_FC (s : State) : Result := .next (s.raiseUnknownOpcode 0xFC)

/-- ILLEGAL_FD (R266) -/
def execIllegal_FD (s : State) : Result := .next (s.raiseUnknownOpcode 0xFD)

end Sys2Proof.Machine
end

