-- ==== Sys2Proof/Machine/Fetch.lean ====
section
/-! DEFINITION. Fetching the instruction at PC (spec/30_encoding.md R98, R99; spec/60_exceptions.md R300 item 4): which
instruction the bytes at PC are, which accesses reading them issues, and where PC goes. -/

namespace Sys2Proof.Machine

/-- Address of the byte read after the opcode byte: the opcode byte itself once more under `halt_bug` (R99). -/
def State.cursor (s : State) : Word := if s.haltBug then s.pc else s.pc + 1

/-- The table entry the bytes at PC decode to, each read after the one before it (R98; 20_memory.md R72). -/
def State.fetched (s : State) : Instr :=
  let t := s.noteRead s.pc
  decodeRow (s.peek s.pc) (t.peek s.cursor) ((t.noteRead s.cursor).peek (s.cursor + 1))

/-- The reads of a fetch, in order: opcode, then the CB opcode or the immediate bytes, low address first
(20_memory.md R72). -/
def State.noteFetch (s : State) : State :=
  match operandBytes (s.peek s.pc) with
  | 0 => s.noteRead s.pc
  | 1 => (s.noteRead s.pc).noteRead s.cursor
  | _ => (s.noteRead s.pc).noteRead16 s.cursor

/-- The state an instruction starts from: PC past the opcode and its immediates, `halt_bug` consumed (R300). -/
def State.afterFetch (s : State) : State :=
  { s.noteFetch with pc := s.cursor + BitVec.ofNat 16 (operandBytes (s.peek s.pc)), haltBug := false }

end Sys2Proof.Machine
end

