-- ==== Sys2Proof/Machine/Step.lean ====
section
/-! DEFINITION. One step of the core (spec/60_exceptions.md R300), the clocked wrapper around it
(spec/70_reset_and_hazards.md R351), and placing one instruction for the next fetch. -/

namespace Sys2Proof.Machine

/-- Items 3 to 6: decode at PC and execute. A byte without an instruction raises `UnknownOpcode` with PC not
advanced and nothing else done (R305); what came before in the step stays (DEDUCED, log entry 7). -/
def runInstr (s : State) : Result :=
  if s.fetched.isIllegal then exec s.fetched (s.noteRead s.pc)
  else mapNext (fun t => t.complete s.pendingEnable (cycles s.fetched)) (exec s.fetched s.afterFetch)

/-- Items 1 and 2: sleep, or wake and enter an accepted request, or run the instruction at PC. -/
def stepAwake (s : State) : Result :=
  if s.asleep then .next s.idle
  else
    match s.wake.accepted with
    | some k => .next (s.wake.enterInterrupt k)
    | none => runInstr s.wake

/-- `Step(irq)`, with the environment's input for this step taken from the list of inputs. An asserted `reset`
wins over everything (R318) and takes a step of its own (DESIGN CHOICE, log entry 5); then a latched fault stops
the step (R301; DEDUCED, log entry 6). -/
def step (s : State) : Host.Outcome State Fault Refusal :=
  match s.input.reset with
  | some g => .next (s.beginStep.resetCore g)
  | none =>
    match s.fault with
    | some u => .fault (.unknownOpcode u.byte u.addr)
    | none => stepAwake s.beginStep

/-- `Tick(irq)`: one unit of time. A step happens when no cycle is owed; then its cost less the unit itself is
owed (70_reset_and_hazards.md R351; DESIGN CHOICE, log entry 11). An asserted `reset` does not wait for the count
(R340; DESIGN CHOICE, log entry 5). -/
def tick (unit : Config.CycleUnit) (s : State) : Result :=
  if s.cycleDebt = 0 ∨ s.input.reset.isSome then
    mapNext (fun t => { t with cycleDebt := t.cost * unit.perMachineCycle - 1 }) (step s)
  else .next { s with cycleDebt := s.cycleDebt - 1 }

/-- The state with the instruction of a table word stored at PC and the core ready to fetch it (DEDUCED,
log entry 10). -/
def State.withFetchWord (s : State) (nbits w : Nat) : State := s.readyToFetch.load s.pc (tableBytes nbits w)

end Sys2Proof.Machine
end

