-- ==== Sys2Proof/Safety.lean ====
section
/-! DEFINITION. What a safe state of the machine is: the relations between its fields that every step keeps. -/

namespace Sys2Proof.Machine

/-- The eleven first bytes that select no instruction (30_encoding.md R108). -/
def illegalBytes : List Byte := [0xD3, 0xDB, 0xDD, 0xE3, 0xE4, 0xEB, 0xEC, 0xED, 0xF4, 0xFC, 0xFD]

/-- What the fault latch may hold: one of the eleven bytes, at the address PC still holds, where memory still holds
it unless a device answered it (R42, R305). -/
def State.latchSound (s : State) : Prop :=
  ∀ u, s.fault = some u →
    u.byte ∈ illegalBytes ∧ u.addr = s.pc ∧ (s.kindAt u.addr ≠ .device → s.held u.addr = u.byte)

/-- The invariant of the machine: memory in canonical form; a sleeping core has no repeated fetch outstanding
(the HALT bug is the case of HALT that does not sleep, 48_system.md R263); the fault latch is sound; and a step
costs at most 6 M-cycles (10_state.md R41). -/
structure State.Inv (s : State) : Prop where
  mem_wf : Memory.wf s.mem = true
  sleep_without_bug : s.lowPower = true → s.haltBug = false
  latch_sound : s.latchSound
  cost_le : s.cost ≤ 6

end Sys2Proof.Machine
end

