-- ==== Sys2Proof/Certificates/Slice0/Obligations.lean ====
section
/-! DEFINITION. The statements for the provers. First what they are written with: the spec's own formulas where they
differ from the model's, and which instruction may write what. Then the statements. -/

namespace Sys2Proof.Statements

open Sys2Proof.Machine

/-! ### Formulas of the spec -/

/-- `v[15:8]` -/
def high (v : Word) : Byte := v.extractLsb' 8 8

/-- `v[7:0]` -/
def low (v : Word) : Byte := v.extractLsb' 0 8

/-- The carry flag as a number to add: 0 or 1. -/
def carryIn (c : Bool) : Byte := if c then 1 else 0

/-- A and F after adding `v` and the carry `cin` to A (40_additive.md R130, R132). -/
def afterSum (s : State) (v : Byte) (cin : Bool) : State :=
  { s with
    a := s.a + v + carryIn cin
    f := { z := decide ((s.a.toNat + v.toNat + cin.toNat) % 256 = 0)
           n := false
           h := decide ((s.a &&& 0xF).toNat + (v &&& 0xF).toNat + cin.toNat > 0xF)
           c := decide (s.a.toNat + v.toNat + cin.toNat > 0xFF) } }

/-- A and F after subtracting `v` and the borrow `cin` from A (40_additive.md R131, R138). -/
def afterDifference (s : State) (v : Byte) (cin : Bool) : State :=
  { s with
    a := s.a - v - carryIn cin
    f := { z := decide (s.a - v - carryIn cin = 0)
           n := true
           h := decide ((s.a &&& 0xF).toNat < (v &&& 0xF).toNat + cin.toNat)
           c := decide (s.a.toNat < v.toNat + cin.toNat) } }

/-- F after comparing A with `v`: Z exactly when equal, C exactly when A is less (40_additive.md R144). -/
def afterCompare (s : State) (v : Byte) : State :=
  { s with
    f := { z := decide (s.a = v), n := true,
           h := decide ((s.a &&& 0xF).toNat < (v &&& 0xF).toNat), c := decide (s.a < v) } }

/-- A and F after a bitwise operation with result `r` (42_bitwise.md R160). -/
def afterBitwise (s : State) (r : Byte) (h : Bool) : State :=
  { s with a := r, f := { z := decide (r = 0), n := false, h := h, c := false } }

/-- F after SP + e8: both carries from the unsigned addition of the low bytes (41_add16.md R152). -/
def offsetFlags (sp : Word) (e8 : Byte) : Flags :=
  { z := false, n := false,
    h := decide ((low sp &&& 0xF).toNat + (e8 &&& 0xF).toNat > 0xF),
    c := decide ((low sp).toNat + e8.toNat > 0xFF) }

/-- `(v, cin) -> (res, cout)` of the rotates and shifts (44_rotate_shift.md R190), by rotation, by moving bits, and
by arithmetic. -/
def shifted : RotOp → Byte → Bool → Byte × Bool
  | .rlc, v, _ => (v.rotateLeft 1, v.msb)
  | .rrc, v, _ => (v.rotateRight 1, v.getLsbD 0)
  | .rl, v, cin => (v.extractLsb' 0 7 ++ BitVec.ofBool cin, v.msb)
  | .rr, v, cin => (BitVec.ofBool cin ++ v.extractLsb' 1 7, v.getLsbD 0)
  | .sla, v, _ => (v + v, v.msb)
  | .sra, v, _ => (v.sshiftRight 1, v.getLsbD 0)
  | .swap, v, _ => (v.extractLsb' 0 4 ++ v.extractLsb' 4 4, false)
  | .srl, v, _ => (BitVec.ofNat 8 (v.toNat / 2), v.getLsbD 0)

/-- The state after the operand `o` is read, its result `r.1` written back and F set from `r`: a read and a write
of the bus where `o` is the memory byte at HL. -/
def afterShift (s : State) (o : Operand8) (r : Byte × Bool) : State :=
  { (s.touch o).put o r.1 with f := { z := decide (r.1 = 0), n := false, h := false, c := r.2 } }

/-- The two branches of DAA: result and carry (46_daa_misc.md R230). -/
def decimalAdjusted (a : Byte) (f : Flags) : Byte × Bool :=
  if f.n = false then
    (BitVec.ofNat 8 (a.toNat + (if f.h = true ∨ (a &&& 0x0F).toNat > 0x09 then 0x06 else 0x00)
        + (if f.c = true ∨ a.toNat > 0x99 then 0x60 else 0x00)),
      f.c || decide (a.toNat > 0x99))
  else
    (BitVec.ofNat 8 (a.toNat + 256 - (if f.h = true then 0x06 else 0x00) - (if f.c = true then 0x60 else 0x00)), f.c)

/-- The packed BCD byte of a number below 100 (46_daa_misc.md R234). -/
def packedBcd (n : Nat) : Byte := BitVec.ofNat 8 (16 * (n / 10) + n % 10)

/-- `i` is the accumulator operation `op` with the byte `v` as its second operand, in any of the three forms: in a
register or in the memory byte at HL, where the state `s` holds it, or as the immediate (40_additive.md). -/
def combinesWith (op : AluOp) (v : Byte) (s : State) (i : Instr) : Prop :=
  (∃ o, s.val o = v ∧ i = .alu op o) ∨ i = .aluImm op v

/-- A loaded from memory: one read of the bus. -/
def loadedA (s : State) (addr : Word) : State := { s.noteRead addr with a := s.peek addr }

/-- A word pushed: the high byte at SP - 1, then the low byte at SP - 2, SP two lower (20_memory.md R64). -/
def pushed (s : State) (v : Word) : State :=
  { (s.store (s.sp - 1) (high v)).store (s.sp - 2) (low v) with sp := s.sp - 2 }

/-- The bytes that reads at these addresses return, one after another. -/
def bytesRead : List Word → State → List Byte
  | [], _ => []
  | a :: as, s => s.peek a :: bytesRead as (s.noteRead a)

/-- The state after those reads. -/
def afterReads : List Word → State → State
  | [], s => s
  | a :: as, s => afterReads as (s.noteRead a)

/-- A word popped: low byte at SP, then high byte at SP + 1, SP two higher (20_memory.md R65). -/
def poppedWord (s : State) : Word := (s.noteRead s.sp).peek (s.sp + 1) ++ s.peek s.sp

def afterPop (s : State) : State := { afterReads [s.sp, s.sp + 1] s with sp := s.sp + 2 }

/-- The condition predicate (47_control_flow.md R240). -/
def holds : Cond → Flags → Prop
  | .nz, f => f.z = false
  | .z, f => f.z = true
  | .nc, f => f.c = false
  | .c, f => f.c = true

/-- A conditional transfer of which `t` is the outcome when it is taken (47_control_flow.md R240, R252). -/
def transfersIf (i : Instr) (cc : Cond) (s t : State) : Prop :=
  (holds cc s.f → exec i s = .next { t with taken := true }) ∧
  (¬ holds cc s.f → exec i s = .next { s with taken := false })

/-- Instructions executed one after another. -/
def runAll : List Instr → State → Result
  | [], s => .next s
  | i :: is, s =>
    match exec i s with
    | .next t => runAll is t
    | r => r

/-! ### Steps -/

/-- The next step of `s` decodes at PC: no reset, no latched fault, awake or woken, and no request accepted
(60_exceptions.md R300 items 0 to 2). -/
def decodesAtPC (s : State) : Prop :=
  s.input.reset = none ∧ s.fault = none ∧ (s.lowPower = false ∨ s.input.irq ≠ 0) ∧
    (s.ime = false ∨ s.input.irq = 0)

/-- `s` with the environment's input in and the core awake: what the decoder sees. -/
def ready (s : State) : State := { s.beginStep with lowPower := false }

/-- What the driver does after the instruction (60_exceptions.md R300 item 6; 70_reset_and_hazards.md R352). -/
def finished (p0 : Bool) (i : Instr) (t : State) : State :=
  { t with
    ime := t.ime || (p0 && t.pendingEnable)
    pendingEnable := t.pendingEnable && !p0
    cost := if t.taken then (cycles i).1 else (cycles i).2 }

/-- Memory, and the environment's answers left, after the accesses of a bus trace, if every read of it returned what
the BUS `rs` returns at that moment: the byte held, or at a device the next answer (20_memory.md R81; log entry 4). -/
def replay (rs : List Region) : List Host.Cell → List Byte → List BusAccess → Option (List Host.Cell × List Byte)
  | m, as, [] => some (m, as)
  | m, as, .read a v :: acc =>
    match Bus.kindIn rs a with
    | .ram | .rom => if Memory.read m a.toNat = v then replay rs m as acc else none
    | .device => if as.headD (Memory.read m a.toNat) = v then replay rs m as.tail acc else none
  | m, as, .write a v :: acc =>
    match Bus.kindIn rs a with
    | .ram => replay rs (Memory.write m a.toNat v) as acc
    | .rom | .device => replay rs m as acc

/-- The largest `cycle_debt`, in a unit of time (10_state.md R41). -/
def debtLimit : Config.CycleUnit → Nat
  | .machine => 5
  | .clock => 23

/-! ### Which instruction may write what -/

/-- The instructions whose rule says "Flags: none affected" (10_state.md R28; 49_loads.md R295; 43_incdec.md R179,
R180; 45_bitops.md R222 to R225; 47_control_flow.md; 48_system.md). -/
inductive LeavesFlags : Instr → Prop
  | ldReg (r o) : LeavesFlags (.ldReg r o)
  | ldImm (o n8) : LeavesFlags (.ldImm o n8)
  | ldStore (r) : LeavesFlags (.ldStore r)
  | ld_A_mBC : LeavesFlags .ld_A_mBC
  | ld_A_mDE : LeavesFlags .ld_A_mDE
  | ld_mBC_A : LeavesFlags .ld_mBC_A
  | ld_mDE_A : LeavesFlags .ld_mDE_A
  | ld_A_ma16 (a16) : LeavesFlags (.ld_A_ma16 a16)
  | ld_ma16_A (a16) : LeavesFlags (.ld_ma16_A a16)
  | ldh_A_ma8 (a8) : LeavesFlags (.ldh_A_ma8 a8)
  | ldh_ma8_A (a8) : LeavesFlags (.ldh_ma8_A a8)
  | ldh_A_mC : LeavesFlags .ldh_A_mC
  | ldh_mC_A : LeavesFlags .ldh_mC_A
  | ld_mHLi_A : LeavesFlags .ld_mHLi_A
  | ld_mHLd_A : LeavesFlags .ld_mHLd_A
  | ld_A_mHLi : LeavesFlags .ld_A_mHLi
  | ld_A_mHLd : LeavesFlags .ld_A_mHLd
  | ldPair (p n16) : LeavesFlags (.ldPair p n16)
  | ld_ma16_SP (a16) : LeavesFlags (.ld_ma16_SP a16)
  | ld_SP_HL : LeavesFlags .ld_SP_HL
  | push (p) : LeavesFlags (.push p)
  | pop (p) (h : p ≠ .af) : LeavesFlags (.pop p)
  | incPair (p) : LeavesFlags (.incPair p)
  | decPair (p) : LeavesFlags (.decPair p)
  | res (b o) : LeavesFlags (.res b o)
  | set (b o) : LeavesFlags (.set b o)
  | jp_a16 (a16) : LeavesFlags (.jp_a16 a16)
  | jp_HL : LeavesFlags .jp_HL
  | jpIf (cc a16) : LeavesFlags (.jpIf cc a16)
  | jr_e8 (e8) : LeavesFlags (.jr_e8 e8)
  | jrIf (cc e8) : LeavesFlags (.jrIf cc e8)
  | call_a16 (a16) : LeavesFlags (.call_a16 a16)
  | callIf (cc a16) : LeavesFlags (.callIf cc a16)
  | ret : LeavesFlags .ret
  | reti : LeavesFlags .reti
  | retIf (cc) : LeavesFlags (.retIf cc)
  | rst (y) : LeavesFlags (.rst y)
  | nop : LeavesFlags .nop
  | di : LeavesFlags .di
  | ei : LeavesFlags .ei
  | halt : LeavesFlags .halt
  | stop (pad) : LeavesFlags (.stop pad)
  | illegal (i) (h : i.isIllegal = true) : LeavesFlags i

/-- The registers an instruction's rule names as written. -/
inductive WritesReg : Instr → Reg8 → Prop
  | ldReg (r o) : WritesReg (.ldReg r o) r
  | ldImm (r n8) : WritesReg (.ldImm (.reg r) n8) r
  | inc (r) : WritesReg (.inc (.reg r)) r
  | dec (r) : WritesReg (.dec (.reg r)) r
  | rot (op r) : WritesReg (.rot op (.reg r)) r
  | res (b r) : WritesReg (.res b (.reg r)) r
  | set (b r) : WritesReg (.set b (.reg r)) r
  | prefix_CB (op r) (h : WritesReg (cbRow op) r) : WritesReg (.prefix_CB op) r
  | alu (op o) (h : op ≠ .cp) : WritesReg (.alu op o) .a
  | aluImm (op n8) (h : op ≠ .cp) : WritesReg (.aluImm op n8) .a
  | rlca : WritesReg .rlca .a
  | rrca : WritesReg .rrca .a
  | rla : WritesReg .rla .a
  | rra : WritesReg .rra .a
  | daa : WritesReg .daa .a
  | cpl : WritesReg .cpl .a
  | ld_A_mBC : WritesReg .ld_A_mBC .a
  | ld_A_mDE : WritesReg .ld_A_mDE .a
  | ld_A_ma16 (a16) : WritesReg (.ld_A_ma16 a16) .a
  | ldh_A_ma8 (a8) : WritesReg (.ldh_A_ma8 a8) .a
  | ldh_A_mC : WritesReg .ldh_A_mC .a
  | ld_A_mHLi (r) (h : r = .a ∨ r = .h ∨ r = .l) : WritesReg .ld_A_mHLi r
  | ld_A_mHLd (r) (h : r = .a ∨ r = .h ∨ r = .l) : WritesReg .ld_A_mHLd r
  | ld_mHLi_A (r) (h : r = .h ∨ r = .l) : WritesReg .ld_mHLi_A r
  | ld_mHLd_A (r) (h : r = .h ∨ r = .l) : WritesReg .ld_mHLd_A r
  | addHL (p r) (h : r = .h ∨ r = .l) : WritesReg (.addHL p) r
  | ld_HL_SPe8 (e8 r) (h : r = .h ∨ r = .l) : WritesReg (.ld_HL_SPe8 e8) r
  | bc (i r) (h : (∃ v, i = .ldPair .bc v) ∨ i = .incPair .bc ∨ i = .decPair .bc ∨ i = .pop .bc)
      (hr : r = .b ∨ r = .c) : WritesReg i r
  | de (i r) (h : (∃ v, i = .ldPair .de v) ∨ i = .incPair .de ∨ i = .decPair .de ∨ i = .pop .de)
      (hr : r = .d ∨ r = .e) : WritesReg i r
  | hl (i r) (h : (∃ v, i = .ldPair .hl v) ∨ i = .incPair .hl ∨ i = .decPair .hl ∨ i = .pop .hl)
      (hr : r = .h ∨ r = .l) : WritesReg i r
  | pop_AF : WritesReg (.pop .af) .a

/-- The instructions that write SP (10_state.md R25). -/
inductive WritesSP : Instr → Prop
  | ldPair (v) : WritesSP (.ldPair .sp v)
  | ld_SP_HL : WritesSP .ld_SP_HL
  | incPair : WritesSP (.incPair .sp)
  | decPair : WritesSP (.decPair .sp)
  | add_SP_e8 (e8) : WritesSP (.add_SP_e8 e8)
  | push (p) : WritesSP (.push p)
  | pop (p) : WritesSP (.pop p)
  | call_a16 (a16) : WritesSP (.call_a16 a16)
  | callIf (cc a16) : WritesSP (.callIf cc a16)
  | rst (y) : WritesSP (.rst y)
  | ret : WritesSP .ret
  | retIf (cc) : WritesSP (.retIf cc)
  | reti : WritesSP .reti

/-- The instructions that write PC after the driver's advance (10_state.md R26). -/
inductive WritesPC : Instr → Prop
  | jp_a16 (a16) : WritesPC (.jp_a16 a16)
  | jp_HL : WritesPC .jp_HL
  | jpIf (cc a16) : WritesPC (.jpIf cc a16)
  | jr_e8 (e8) : WritesPC (.jr_e8 e8)
  | jrIf (cc e8) : WritesPC (.jrIf cc e8)
  | call_a16 (a16) : WritesPC (.call_a16 a16)
  | callIf (cc a16) : WritesPC (.callIf cc a16)
  | ret : WritesPC .ret
  | retIf (cc) : WritesPC (.retIf cc)
  | reti : WritesPC .reti
  | rst (y) : WritesPC (.rst y)

/-- The addresses an instruction stores to from a state. An instruction without a line here stores nothing. -/
inductive StoresAt : Instr → State → Word → Prop
  | ldStore (r s) : StoresAt (.ldStore r) s (s.h ++ s.l)
  | ldImm (n8 s) : StoresAt (.ldImm .memHL n8) s (s.h ++ s.l)
  | inc (s) : StoresAt (.inc .memHL) s (s.h ++ s.l)
  | dec (s) : StoresAt (.dec .memHL) s (s.h ++ s.l)
  | rot (op s) : StoresAt (.rot op .memHL) s (s.h ++ s.l)
  | res (b s) : StoresAt (.res b .memHL) s (s.h ++ s.l)
  | set (b s) : StoresAt (.set b .memHL) s (s.h ++ s.l)
  | prefix_CB (op s a) (h : StoresAt (cbRow op) s a) : StoresAt (.prefix_CB op) s a
  | ld_mBC_A (s) : StoresAt .ld_mBC_A s (s.b ++ s.c)
  | ld_mDE_A (s) : StoresAt .ld_mDE_A s (s.d ++ s.e)
  | ld_mHLi_A (s) : StoresAt .ld_mHLi_A s (s.h ++ s.l)
  | ld_mHLd_A (s) : StoresAt .ld_mHLd_A s (s.h ++ s.l)
  | ld_ma16_A (a16 s) : StoresAt (.ld_ma16_A a16) s a16
  | ldh_ma8_A (a8 s) : StoresAt (.ldh_ma8_A a8) s (0xFF#8 ++ a8)
  | ldh_mC_A (s) : StoresAt .ldh_mC_A s (0xFF#8 ++ s.c)
  | ld_ma16_SP_low (a16 s) : StoresAt (.ld_ma16_SP a16) s a16
  | ld_ma16_SP_high (a16 s) : StoresAt (.ld_ma16_SP a16) s (a16 + 1)
  | pushes (i s a) (h : (∃ p, i = .push p) ∨ (∃ y, i = .rst y) ∨ (∃ a16, i = .call_a16 a16) ∨
        (∃ cc a16, i = .callIf cc a16 ∧ holds cc s.f)) (ha : a = s.sp - 1 ∨ a = s.sp - 2) : StoresAt i s a

end Sys2Proof.Statements

open Sys2Proof Sys2Proof.Machine Sys2Proof.Statements

/-! ### Encoding -/

/-- Words written out from the opcode maps of 30_encoding.md (R103 to R107) and the encoding lines of the rules,
one or more of every family, decode to the instruction they stand for. -/
def Obligations.SpecEncodingsDecode : Prop :=
  ∀ p ∈ ([([0x00], .nop), ([0x08, 0x00, 0xC1], .ld_ma16_SP 0xC100), ([0x10, 0x00], .stop 0x00),
      ([0x20, 0xFA], .jrIf .nz 0xFA), ([0x01, 0x34, 0x12], .ldPair .bc 0x1234), ([0x39], .addHL .sp),
      ([0x22], .ld_mHLi_A), ([0x1B], .decPair .de), ([0x34], .inc .memHL), ([0x3E, 0xFF], .ldImm (.reg .a) 0xFF),
      ([0x27], .daa), ([0x41], .ldReg .b (.reg .c)), ([0x76], .halt), ([0x9E], .alu .sbc .memHL),
      ([0xFE, 0x3C], .aluImm .cp 0x3C), ([0xC4, 0x34, 0x12], .callIf .nz 0x1234), ([0xDF], .rst 3),
      ([0xE0, 0x34], .ldh_ma8_A 0x34), ([0xF8, 0x02], .ld_HL_SPe8 0x02), ([0xF5], .push .af), ([0xD9], .reti),
      ([0xCB, 0x7C], .bit 7 (.reg .h)), ([0xCB, 0x37], .rot .swap (.reg .a)), ([0xCB, 0xDE], .set 3 .memHL),
      ([0xCB, 0x8D], .res 1 (.reg .l)), ([0xD3], .illegal_D3)] : List (List Byte × Instr)),
    decode p.1 = .ok (p.2, [])

/-- DECODE AND ENCODE AGREE. Every instruction but the prefix row (which the decoder never answers), with every
operand value, whatever bytes follow it. -/
def Obligations.DecodeInvertsEncode : Prop :=
  ∀ (i : Instr) (rest : List Byte), i.isPrefix = false → decode (encode i ++ rest) = .ok (i, rest)

/-- The other direction: bytes that decode are the encoding of what they decode to, followed by the rest. -/
def Obligations.EncodeInvertsDecode : Prop :=
  ∀ (bs : List Byte) (i : Instr) (rest : List Byte), decode bs = .ok (i, rest) → bs = encode i ++ rest

/-- The first byte decides the length (30_encoding.md R91, R110) and whether there is an instruction at all (R108,
R109): three bytes for seventeen opcodes, two for twenty-six and the prefix, else one; the eleven bytes and no
other decode to a row that is not well formed. -/
def Obligations.FirstByteDecides : Prop :=
  ∀ (b0 : Byte) (bs : List Byte) (i : Instr) (rest : List Byte), decode (b0 :: bs) = .ok (i, rest) →
    (b0 :: bs).length = rest.length +
      (if b0 ∈ ([0x01, 0x11, 0x21, 0x31, 0x08, 0xC2, 0xCA, 0xD2, 0xDA, 0xC3, 0xC4, 0xCC, 0xD4, 0xDC, 0xCD, 0xEA,
          0xFA] : List Byte) then 3
       else if b0 ∈ ([0x06, 0x0E, 0x16, 0x1E, 0x26, 0x2E, 0x36, 0x3E, 0x10, 0x18, 0x20, 0x28, 0x30, 0x38, 0xC6,
          0xCE, 0xD6, 0xDE, 0xE6, 0xEE, 0xF6, 0xFE, 0xE0, 0xF0, 0xE8, 0xF8, 0xCB] : List Byte) then 2
       else 1) ∧
    (i.wf = false ↔
      b0 ∈ ([0xD3, 0xDB, 0xDD, 0xE3, 0xE4, 0xEB, 0xEC, 0xED, 0xF4, 0xFC, 0xFD] : List Byte))

/-- The operand tables: what each field value selects, as a value of the state (R93 to R96), and the condition each
number stands for. -/
def Obligations.OperandFieldTables : Prop :=
  ∀ s : State,
    (List.range 8).map (fun i => s.val (Operand8.ofField i)) =
      [s.b, s.c, s.d, s.e, s.h, s.l, s.peek (s.h ++ s.l), s.a] ∧
    (List.range 4).map (fun p => s.getPair (Pair.ofField p)) = [s.b ++ s.c, s.d ++ s.e, s.h ++ s.l, s.sp] ∧
    (List.range 4).map (fun p => s.getStackPair (StackPair.ofField p)) =
      [s.b ++ s.c, s.d ++ s.e, s.h ++ s.l, s.a ++ s.f.toByte] ∧
    (List.range 4).map (fun i => s.cond (Cond.ofField i)) = [!s.f.z, s.f.z, !s.f.c, s.f.c]

/-! ### Registers, flags, memory -/

/-- A register reads back what was written and no other register changes (10_state.md R21); a pair written reads
back, its first letter the high byte, with AF losing its low nibble (R23, D6). -/
def Obligations.RegisterFileAndPairViews : Prop :=
  (∀ (s : State) (r q : Reg8) (v : Byte), (s.setReg r v).getReg q = if q = r then v else s.getReg q) ∧
  (∀ (s : State) (p : Pair) (v : Word), (s.setPair p v).getPair p = v ∧ (s.setPair p v).f = s.f) ∧
  (∀ (s : State) (p : StackPair) (v : Word),
    (s.setStackPair p v).getStackPair p = if p = .af then v &&& 0xFFF0 else v) ∧
  (∀ s : State, s.bc = s.b ++ s.c ∧ s.de = s.d ++ s.e ∧ s.hl = s.h ++ s.l ∧ s.af = s.a ++ s.f.toByte)

/-- Writing the four flags and reading F (R27): the byte is their packing with a zero low nibble, and its bits
give the flags back. -/
def Obligations.FlagsByteRoundTrip : Prop :=
  ∀ z n h c : Bool,
    let f : Flags := { z := z, n := n, h := h, c := c }
    f.toByte.toNat = z.toNat <<< 7 ||| n.toNat <<< 6 ||| h.toNat <<< 5 ||| c.toNat <<< 4 ∧
    f.toByte &&& 0x0F = 0 ∧
    Flags.ofByte f.toByte = f ∧
    [f.toByte.getLsbD 7, f.toByte.getLsbD 6, f.toByte.getLsbD 5, f.toByte.getLsbD 4] = [z, n, h, c]

/-- A byte write puts the byte at its address and changes no other (R61, for plain memory), changes nothing where the
environment treats the address as read-only, and is issued and changes no core state in any case; a read of plain
memory returns the byte held, and a read of any address changes no core state (R60). -/
def Obligations.ByteReadAfterWrite : Prop :=
  ∀ (s : State) (addr : Word) (v : Byte),
    (s.kindAt addr = .ram → Memory.wf s.mem = true →
      ∀ b : Word, (s.store addr v).held b = if b = addr then v else s.held b) ∧
    (s.kindAt addr = .ram → Memory.wf s.mem = true → (s.store addr v).peek addr = v) ∧
    (s.kindAt addr = .rom → (s.store addr v).mem = s.mem) ∧
    (s.store addr v).bus = s.bus ++ [.write addr v] ∧
    { s.store addr v with mem := s.mem, bus := s.bus } = s ∧
    (s.kindAt addr = .ram → s.peek addr = s.held addr ∧
      s.noteRead addr = { s with bus := s.bus ++ [.read addr (s.held addr)] }) ∧
    (s.noteRead addr).bus = s.bus ++ [.read addr (s.peek addr)] ∧
    { s.noteRead addr with bus := s.bus, answers := s.answers } = s

/-- Little-endian everywhere (R66): data, the immediates of the instruction stream, and the stack. -/
def Obligations.LittleEndianEverywhere : Prop :=
  (∀ s : State, ∀ addr v : Word,
    s.peek16 addr = (s.noteRead addr).peek (addr + 1) ++ s.peek addr ∧
    (s.store16 addr v).bus = s.bus ++ [.write addr (low v), .write (addr + 1) (high v)] ∧
    (Memory.wf s.mem = true → s.kindAt addr = .ram → s.kindAt (addr + 1) = .ram →
      (s.store16 addr v).peek addr = low v ∧ (s.store16 addr v).peek (addr + 1) = high v ∧
      (s.store16 addr v).peek16 addr = v)) ∧
  (∀ (lsb msb : Byte) (r : Pair) (cc : Cond), ∀ p ∈ ([(0x01 + 16 * r.code, .ldPair r), (0x08, .ld_ma16_SP),
      (0xC3, .jp_a16), (0xC2 + 8 * cc.code, .jpIf cc), (0xCD, .call_a16), (0xC4 + 8 * cc.code, .callIf cc),
      (0xEA, .ld_ma16_A), (0xFA, .ld_A_ma16)] : List (Byte × (Word → Instr))),
    decode [p.1, lsb, msb] = .ok (p.2 (msb ++ lsb), [])) ∧
  (∀ (s : State) (v : Word), Memory.wf s.mem = true → s.kindAt (s.sp - 1) = .ram → s.kindAt (s.sp - 2) = .ram →
    (s.push16 v).peek (s.push16 v).sp = low v ∧ (s.push16 v).peek ((s.push16 v).sp + 1) = high v)

/-- A push followed by a pop restores SP, for every value and every SP, and gives the value back where the stack is
plain memory (R82); the push stores two bytes, the high one first (R64, D5), and nothing else; the pop changes no
memory (R65). -/
def Obligations.PushThenPop : Prop :=
  ∀ (s : State) (v : Word),
    s.push16 v = pushed s v ∧
    (Memory.wf s.mem = true → s.kindAt (s.sp - 1) = .ram → s.kindAt (s.sp - 2) = .ram → (s.push16 v).popVal = v) ∧
    (s.push16 v).popped.sp = s.sp ∧
    (s.push16 v).bus = s.bus ++ [.write (s.sp - 1) (high v), .write (s.sp - 2) (low v)] ∧
    (∀ b : Word, b ≠ s.sp - 1 → b ≠ s.sp - 2 → (s.push16 v).held b = s.held b) ∧
    s.popVal = poppedWord s ∧ s.popped = afterPop s

/-- Equal memories are equal data: two memories in the model's canonical form (log entry 2) that read alike at
every address of the 65536 are the same list. -/
def Obligations.CanonicalMemoryIsExtensional : Prop :=
  ∀ m m' : List Host.Cell, Memory.wf m = true → Memory.wf m' = true →
    (∀ a : Word, Memory.read m a.toNat = Memory.read m' a.toNat) → m = m'

/-! ### Arithmetic and logic -/

/-- ADD and ADC on a register, the memory byte at HL and an immediate (R132 to R137; R130). The equation is the
whole state: A, F and the read of the bus are all that differs. -/
def Obligations.AddAndAdc : Prop :=
  (∀ (s : State) (o : Operand8),
    encode (.alu .add o) = [0x80 + o.code] ∧ encode (.alu .adc o) = [0x88 + o.code] ∧
    exec (.alu .add o) s = .next (afterSum (s.touch o) (s.val o) false) ∧
    exec (.alu .adc o) s = .next (afterSum (s.touch o) (s.val o) s.f.c)) ∧
  (∀ (s : State) (n8 : Byte),
    encode (.aluImm .add n8) = [0xC6, n8] ∧ encode (.aluImm .adc n8) = [0xCE, n8] ∧
    exec (.aluImm .add n8) s = .next (afterSum s n8 false) ∧
    exec (.aluImm .adc n8) s = .next (afterSum s n8 s.f.c))

/-- SUB and SBC (R138 to R143; R131). -/
def Obligations.SubAndSbc : Prop :=
  (∀ (s : State) (o : Operand8),
    encode (.alu .sub o) = [0x90 + o.code] ∧ encode (.alu .sbc o) = [0x98 + o.code] ∧
    exec (.alu .sub o) s = .next (afterDifference (s.touch o) (s.val o) false) ∧
    exec (.alu .sbc o) s = .next (afterDifference (s.touch o) (s.val o) s.f.c)) ∧
  (∀ (s : State) (n8 : Byte),
    encode (.aluImm .sub n8) = [0xD6, n8] ∧ encode (.aluImm .sbc n8) = [0xDE, n8] ∧
    exec (.aluImm .sub n8) s = .next (afterDifference s n8 false) ∧
    exec (.aluImm .sbc n8) s = .next (afterDifference s n8 s.f.c))

/-- CP (R144 to R146): SUB's flags, A kept; Z exactly when equal, C exactly when A is less. -/
def Obligations.CompareSetsFlagsOnly : Prop :=
  (∀ (s : State) (o : Operand8),
    encode (.alu .cp o) = [0xB8 + o.code] ∧
    exec (.alu .cp o) s = .next (afterCompare (s.touch o) (s.val o)) ∧
    (afterCompare s (s.val o)).f = (afterDifference s (s.val o) false).f) ∧
  (∀ (s : State) (n8 : Byte),
    encode (.aluImm .cp n8) = [0xFE, n8] ∧ exec (.aluImm .cp n8) s = .next (afterCompare s n8))

/-- AND, XOR, OR (R160 to R169). -/
def Obligations.BitwiseOperations : Prop :=
  (∀ (s : State) (o : Operand8),
    encode (.alu .and o) = [0xA0 + o.code] ∧ encode (.alu .xor o) = [0xA8 + o.code] ∧
    encode (.alu .or o) = [0xB0 + o.code] ∧
    exec (.alu .and o) s = .next (afterBitwise (s.touch o) (s.a &&& s.val o) true) ∧
    exec (.alu .xor o) s = .next (afterBitwise (s.touch o) (s.a ^^^ s.val o) false) ∧
    exec (.alu .or o) s = .next (afterBitwise (s.touch o) (s.a ||| s.val o) false)) ∧
  (∀ (s : State) (n8 : Byte),
    encode (.aluImm .and n8) = [0xE6, n8] ∧ encode (.aluImm .xor n8) = [0xEE, n8] ∧
    encode (.aluImm .or n8) = [0xF6, n8] ∧
    exec (.aluImm .and n8) s = .next (afterBitwise s (s.a &&& n8) true) ∧
    exec (.aluImm .xor n8) s = .next (afterBitwise s (s.a ^^^ n8) false) ∧
    exec (.aluImm .or n8) s = .next (afterBitwise s (s.a ||| n8) false))

/-- ADD HL,r16 (R151; R150; D26 for Z and N): Z stays, N is 0, H is the carry out of bit 11, C that out of bit 15. -/
def Obligations.AddPairToHl : Prop :=
  ∀ (s : State) (p : Pair),
    let v := s.getPair p
    encode (.addHL p) = [0x09 + 16 * p.code] ∧
    exec (.addHL p) s = .next { s with
      h := high (s.hl + v)
      l := low (s.hl + v)
      f := { z := s.f.z, n := false,
             h := decide ((s.hl &&& 0x0FFF).toNat + (v &&& 0x0FFF).toNat > 0x0FFF),
             c := decide (s.hl.toNat + v.toNat > 0xFFFF) } }

/-- ADD SP,e8 (R153; R152): the signed sum, the flags of the unsigned low bytes. -/
def Obligations.AddOffsetToSp : Prop :=
  ∀ (s : State) (e8 : Byte),
    encode (.add_SP_e8 e8) = [0xE8, e8] ∧
    exec (.add_SP_e8 e8) s =
      .next { s with sp := BitVec.ofInt 16 (s.sp.toNat + e8.toInt), f := offsetFlags s.sp e8 }

/-- LD HL,SP+e8 (R154, D26): the same sum and flags, into HL. -/
def Obligations.LoadHlWithSpOffset : Prop :=
  ∀ (s : State) (e8 : Byte),
    encode (.ld_HL_SPe8 e8) = [0xF8, e8] ∧
    exec (.ld_HL_SPe8 e8) s = .next { s with
      h := high (BitVec.ofInt 16 (s.sp.toNat + e8.toInt))
      l := low (BitVec.ofInt 16 (s.sp.toNat + e8.toInt))
      f := offsetFlags s.sp e8 }

/-- INC and DEC on a register or the memory byte at HL (R175 to R178): C stays. -/
def Obligations.IncAndDecByte : Prop :=
  ∀ (s : State) (o : Operand8),
    let v := s.val o
    encode (.inc o) = [0x04 + 8 * o.code] ∧ encode (.dec o) = [0x05 + 8 * o.code] ∧
    exec (.inc o) s = .next { (s.touch o).put o (v + 1) with
      f := { z := decide (v = 0xFF), n := false, h := decide (v.toNat % 16 = 15), c := s.f.c } } ∧
    exec (.dec o) s = .next { (s.touch o).put o (v - 1) with
      f := { z := decide (v = 0x01), n := true, h := decide (v.toNat % 16 = 0), c := s.f.c } }

/-- INC r16 and DEC r16 (R179, R180): the low byte moves by one, the high byte only when the low one wraps, and no
flag changes. -/
def Obligations.IncAndDecPair : Prop :=
  ∀ s : State,
    (∀ p : Pair, encode (.incPair p) = [0x03 + 16 * p.code] ∧ encode (.decPair p) = [0x0B + 16 * p.code]) ∧
    exec (.incPair .bc) s = .next { s with b := if s.c = 0xFF then s.b + 1 else s.b, c := s.c + 1 } ∧
    exec (.incPair .de) s = .next { s with d := if s.e = 0xFF then s.d + 1 else s.d, e := s.e + 1 } ∧
    exec (.incPair .hl) s = .next { s with h := if s.l = 0xFF then s.h + 1 else s.h, l := s.l + 1 } ∧
    exec (.incPair .sp) s = .next { s with sp := s.sp + 1 } ∧
    exec (.decPair .bc) s = .next { s with b := if s.c = 0x00 then s.b - 1 else s.b, c := s.c - 1 } ∧
    exec (.decPair .de) s = .next { s with d := if s.e = 0x00 then s.d - 1 else s.d, e := s.e - 1 } ∧
    exec (.decPair .hl) s = .next { s with h := if s.l = 0x00 then s.h - 1 else s.h, l := s.l - 1 } ∧
    exec (.decPair .sp) s = .next { s with sp := s.sp - 1 }

/-- RLCA, RRCA, RLA, RRA (R191 to R194): Z is always cleared. -/
def Obligations.AccumulatorRotates : Prop :=
  encode .rlca = [0x07] ∧ encode .rrca = [0x0F] ∧ encode .rla = [0x17] ∧ encode .rra = [0x1F] ∧
  ∀ s : State, ∀ p ∈ ([(.rlca, .rlc), (.rrca, .rrc), (.rla, .rl), (.rra, .rr)] : List (Instr × RotOp)),
    exec p.1 s = .next { s with
      a := (shifted p.2 s.a s.f.c).1
      f := { z := false, n := false, h := false, c := (shifted p.2 s.a s.f.c).2 } }

/-- RLC, RRC, RL, RR on a register or the memory byte at HL (R195 to R202). -/
def Obligations.CbRotates : Prop :=
  ∀ (s : State) (o : Operand8), ∀ op ∈ ([.rlc, .rrc, .rl, .rr] : List RotOp),
    encode (.rot op o) = [0xCB, 8 * op.code + o.code] ∧
    exec (.rot op o) s = .next (afterShift s o (shifted op (s.val o) s.f.c))

/-- SLA, SRA, SWAP, SRL on a register or the memory byte at HL (R203 to R210). -/
def Obligations.CbShiftsAndSwap : Prop :=
  ∀ (s : State) (o : Operand8), ∀ op ∈ ([.sla, .sra, .swap, .srl] : List RotOp),
    encode (.rot op o) = [0xCB, 8 * op.code + o.code] ∧
    exec (.rot op o) s = .next (afterShift s o (shifted op (s.val o) s.f.c))

/-- RLC applied n times rotates the operand by n, so eight times restores it, and the carry is each time the bit
most recently rotated out (44_rotate_shift.md, the property quoted in its head; R195, R196). The byte at HL is in
plain memory. -/
def Obligations.RlcEightTimesRestores : Prop :=
  ∀ (s : State) (o : Operand8) (n : Nat), Memory.wf s.mem = true →
    (o = .memHL → s.kindAt (s.h ++ s.l) = .ram) → 1 ≤ n → n ≤ 8 →
    ∃ t, runAll (List.replicate n (.rot .rlc o)) s = .next t ∧
      t.val o = (s.val o).rotateLeft n ∧ t.f.c = (s.val o).getLsbD (8 - n) ∧
      (n = 8 → t.val o = s.val o)

/-- BIT (R220, R221): Z is the complement of the tested bit; nothing but F is written, and on (HL) there is one
read of the bus and no write. -/
def Obligations.BitTest : Prop :=
  ∀ (s : State) (b : Fin 8) (o : Operand8),
    encode (.bit b o) = [0xCB, 0x40 + 8 * BitVec.ofNat 8 b.val + o.code] ∧
    exec (.bit b o) s = .next { s.touch o with
      f := { z := decide (s.val o &&& (1 <<< b.val) = 0), n := false, h := true, c := s.f.c } }

/-- RES and SET (R222 to R225): exactly bit b of the operand is cleared or set, no flag changes, and on (HL) the
byte is written back. -/
def Obligations.ResAndSet : Prop :=
  ∀ (s : State) (b : Fin 8) (o : Operand8),
    encode (.res b o) = [0xCB, 0x80 + 8 * BitVec.ofNat 8 b.val + o.code] ∧
    encode (.set b o) = [0xCB, 0xC0 + 8 * BitVec.ofNat 8 b.val + o.code] ∧
    (∃ v : Byte, exec (.res b o) s = .next ((s.touch o).put o v) ∧
      ∀ k : Nat, k < 8 → v.getLsbD k = if k = b.val then false else (s.val o).getLsbD k) ∧
    (∃ v : Byte, exec (.set b o) s = .next ((s.touch o).put o v) ∧
      ∀ k : Nat, k < 8 → v.getLsbD k = if k = b.val then true else (s.val o).getLsbD k)

/-- DAA (R230), for every A and every F. -/
def Obligations.DecimalAdjust : Prop :=
  encode .daa = [0x27] ∧
  ∀ s : State,
    let r := decimalAdjusted s.a s.f
    exec .daa s = .next { s with a := r.1, f := { z := decide (r.1 = 0), n := s.f.n, h := false, c := r.2 } }

/-- The BCD property of DAA (46_daa_misc.md R234), for every pair of packed BCD operands, both carries and every
form of the second operand (a register, the memory byte at HL, an immediate): after ADC or ADD and DAA, A is the BCD
of the sum modulo 100 and C says whether it passed 99; after SBC or SUB and DAA, A is the BCD of the difference
modulo 100 and C says whether it fell below 0; Z is set exactly when A is 0. -/
def Obligations.DaaGivesPackedBcd : Prop :=
  ∀ (s : State) (da db : Nat) (i : Instr), da < 100 → db < 100 → s.a = packedBcd da →
    (combinesWith .adc (packedBcd db) s i → ∃ t, runAll [i, .daa] s = .next t ∧
      t.a = packedBcd ((da + db + s.f.c.toNat) % 100) ∧ t.f.c = decide (da + db + s.f.c.toNat > 99) ∧
      t.f.z = decide (t.a = 0)) ∧
    (combinesWith .add (packedBcd db) s i → ∃ t, runAll [i, .daa] s = .next t ∧
      t.a = packedBcd ((da + db) % 100) ∧ t.f.c = decide (da + db > 99) ∧ t.f.z = decide (t.a = 0)) ∧
    (combinesWith .sbc (packedBcd db) s i → ∃ t, runAll [i, .daa] s = .next t ∧
      t.a = packedBcd ((da + 200 - db - s.f.c.toNat) % 100) ∧ t.f.c = decide (da < db + s.f.c.toNat) ∧
      t.f.z = decide (t.a = 0)) ∧
    (combinesWith .sub (packedBcd db) s i → ∃ t, runAll [i, .daa] s = .next t ∧
      t.a = packedBcd ((da + 200 - db) % 100) ∧ t.f.c = decide (da < db) ∧ t.f.z = decide (t.a = 0))

/-- CPL, SCF, CCF (R231 to R233): Z stays in all three. -/
def Obligations.ComplementAndCarryFlag : Prop :=
  encode .cpl = [0x2F] ∧ encode .scf = [0x37] ∧ encode .ccf = [0x3F] ∧
  ∀ s : State,
    exec .cpl s = .next { s with a := ~~~s.a, f := { z := s.f.z, n := true, h := true, c := s.f.c } } ∧
    exec .scf s = .next { s with f := { z := s.f.z, n := false, h := false, c := true } } ∧
    exec .ccf s = .next { s with f := { z := s.f.z, n := false, h := false, c := !s.f.c } }

/-! ### Loads -/

/-- LD between registers, from an immediate, from and to the memory byte at HL (R270 to R274). -/
def Obligations.LoadsOfByteOperands : Prop :=
  (∀ (s : State) (r : Reg8) (o : Operand8),
    encode (.ldReg r o) = [0x40 + 8 * r.code + o.code] ∧
    exec (.ldReg r o) s = .next ((s.touch o).setReg r (s.val o))) ∧
  (∀ (s : State) (r : Reg8),
    encode (.ldStore r) = [0x70 + r.code] ∧
    exec (.ldStore r) s = .next (s.store (s.h ++ s.l) (s.getReg r))) ∧
  (∀ (s : State) (r : Reg8) (n8 : Byte),
    encode (.ldImm (.reg r) n8) = [0x06 + 8 * r.code, n8] ∧
    exec (.ldImm (.reg r) n8) s = .next (s.setReg r n8)) ∧
  (∀ (s : State) (n8 : Byte),
    encode (.ldImm .memHL n8) = [0x36, n8] ∧
    exec (.ldImm .memHL n8) s = .next (s.store (s.h ++ s.l) n8))

/-- A from and to memory through BC, DE and an absolute address (R275 to R280). -/
def Obligations.AccumulatorThroughPointer : Prop :=
  encode .ld_A_mBC = [0x0A] ∧ encode .ld_A_mDE = [0x1A] ∧ encode .ld_mBC_A = [0x02] ∧ encode .ld_mDE_A = [0x12] ∧
  ∀ (s : State) (a16 : Word),
    encode (.ld_A_ma16 a16) = [0xFA, low a16, high a16] ∧ encode (.ld_ma16_A a16) = [0xEA, low a16, high a16] ∧
    exec .ld_A_mBC s = .next (loadedA s (s.b ++ s.c)) ∧
    exec .ld_A_mDE s = .next (loadedA s (s.d ++ s.e)) ∧
    exec .ld_mBC_A s = .next (s.store (s.b ++ s.c) s.a) ∧
    exec .ld_mDE_A s = .next (s.store (s.d ++ s.e) s.a) ∧
    exec (.ld_A_ma16 a16) s = .next (loadedA s a16) ∧
    exec (.ld_ma16_A a16) s = .next (s.store a16 s.a)

/-- LDH (R281 to R284): the high page, 0xFF00 plus a byte. -/
def Obligations.HighPageLoads : Prop :=
  encode .ldh_A_mC = [0xF2] ∧ encode .ldh_mC_A = [0xE2] ∧
  ∀ (s : State) (a8 : Byte),
    encode (.ldh_A_ma8 a8) = [0xF0, a8] ∧ encode (.ldh_ma8_A a8) = [0xE0, a8] ∧
    exec (.ldh_A_ma8 a8) s = .next (loadedA s (0xFF00 + a8.setWidth 16)) ∧
    exec (.ldh_ma8_A a8) s = .next (s.store (0xFF00 + a8.setWidth 16) s.a) ∧
    exec .ldh_A_mC s = .next (loadedA s (0xFF00 + s.c.setWidth 16)) ∧
    exec .ldh_mC_A s = .next (s.store (0xFF00 + s.c.setWidth 16) s.a)

/-- The post-increment and post-decrement forms (R285 to R288): HL is used, then moved; no flag changes. -/
def Obligations.LoadsThroughMovingHl : Prop :=
  encode .ld_mHLi_A = [0x22] ∧ encode .ld_mHLd_A = [0x32] ∧ encode .ld_A_mHLi = [0x2A] ∧ encode .ld_A_mHLd = [0x3A] ∧
  ∀ s : State,
    let hl : Word := s.h ++ s.l
    exec .ld_mHLi_A s = .next { s.store hl s.a with h := high (hl + 1), l := low (hl + 1) } ∧
    exec .ld_mHLd_A s = .next { s.store hl s.a with h := high (hl - 1), l := low (hl - 1) } ∧
    exec .ld_A_mHLi s = .next { loadedA s hl with h := high (hl + 1), l := low (hl + 1) } ∧
    exec .ld_A_mHLd s = .next { loadedA s hl with h := high (hl - 1), l := low (hl - 1) }

/-- LD r16,n16; LD (a16),SP; LD SP,HL (R289 to R291). -/
def Obligations.WordLoads : Prop :=
  encode .ld_SP_HL = [0xF9] ∧
  ∀ (s : State) (v : Word),
    (∀ p : Pair, encode (.ldPair p v) = [0x01 + 16 * p.code, low v, high v]) ∧
    encode (.ld_ma16_SP v) = [0x08, low v, high v] ∧
    exec (.ldPair .bc v) s = .next { s with b := high v, c := low v } ∧
    exec (.ldPair .de v) s = .next { s with d := high v, e := low v } ∧
    exec (.ldPair .hl v) s = .next { s with h := high v, l := low v } ∧
    exec (.ldPair .sp v) s = .next { s with sp := v } ∧
    exec (.ld_ma16_SP v) s = .next ((s.store v (low s.sp)).store (v + 1) (high s.sp)) ∧
    exec .ld_SP_HL s = .next { s with sp := s.h ++ s.l }

/-- PUSH of the four pairs and POP of BC, DE, HL (R292, R293). -/
def Obligations.PushAndPopPairs : Prop :=
  ∀ s : State,
    (∀ p : StackPair, encode (.push p) = [0xC5 + 16 * p.code] ∧ encode (.pop p) = [0xC1 + 16 * p.code]) ∧
    exec (.push .bc) s = .next (pushed s (s.b ++ s.c)) ∧
    exec (.push .de) s = .next (pushed s (s.d ++ s.e)) ∧
    exec (.push .hl) s = .next (pushed s (s.h ++ s.l)) ∧
    exec (.push .af) s = .next (pushed s (s.a ++ s.f.toByte)) ∧
    exec (.pop .bc) s = .next { afterPop s with b := high (poppedWord s), c := low (poppedWord s) } ∧
    exec (.pop .de) s = .next { afterPop s with d := high (poppedWord s), e := low (poppedWord s) } ∧
    exec (.pop .hl) s = .next { afterPop s with h := high (poppedWord s), l := low (poppedWord s) }

/-- POP AF (R294, D6): A and the four flags from the stack, the low nibble discarded: F reads back as the popped
low byte with bits 3 to 0 zero. -/
def Obligations.PopAfLoadsFlags : Prop :=
  ∀ s : State,
    let v := s.peek s.sp
    encode (.pop .af) = [0xF1] ∧
    exec (.pop .af) s = .next { afterPop s with
      a := (s.noteRead s.sp).peek (s.sp + 1)
      f := { z := v.getLsbD 7, n := v.getLsbD 6, h := v.getLsbD 5, c := v.getLsbD 4 } } ∧
    (Flags.ofByte v).toByte = v &&& 0xF0

/-! ### Control transfer -/

/-- JP (R241 to R243; R240). -/
def Obligations.AbsoluteJumps : Prop :=
  encode .jp_HL = [0xE9] ∧
  ∀ (s : State) (a16 : Word),
    encode (.jp_a16 a16) = [0xC3, low a16, high a16] ∧
    exec (.jp_a16 a16) s = .next { s with pc := a16, taken := true } ∧
    exec .jp_HL s = .next { s with pc := s.h ++ s.l, taken := true } ∧
    ∀ cc : Cond,
      encode (.jpIf cc a16) = [0xC2 + 8 * cc.code, low a16, high a16] ∧
      transfersIf (.jpIf cc a16) cc s { s with pc := a16 }

/-- JR (R244, R245; D25): relative to the address after the instruction, modulo 2^16. -/
def Obligations.RelativeJumps : Prop :=
  ∀ (s : State) (e8 : Byte),
    encode (.jr_e8 e8) = [0x18, e8] ∧
    exec (.jr_e8 e8) s = .next { s with pc := BitVec.ofInt 16 (s.pc.toNat + e8.toInt), taken := true } ∧
    ∀ cc : Cond,
      encode (.jrIf cc e8) = [0x20 + 8 * cc.code, e8] ∧
      transfersIf (.jrIf cc e8) cc s { s with pc := BitVec.ofInt 16 (s.pc.toNat + e8.toInt) }

/-- CALL and RST (R246, R247, R251): the address after the instruction is pushed; a call not taken pushes nothing. -/
def Obligations.CallsAndRestarts : Prop :=
  ∀ (s : State) (a16 : Word),
    encode (.call_a16 a16) = [0xCD, low a16, high a16] ∧
    exec (.call_a16 a16) s = .next { pushed s s.pc with pc := a16, taken := true } ∧
    (∀ cc : Cond,
      encode (.callIf cc a16) = [0xC4 + 8 * cc.code, low a16, high a16] ∧
      transfersIf (.callIf cc a16) cc s { pushed s s.pc with pc := a16 }) ∧
    (∀ y : Fin 8,
      encode (.rst y) = [0xC7 + 8 * BitVec.ofNat 8 y.val] ∧
      exec (.rst y) s = .next { pushed s s.pc with pc := BitVec.ofNat 16 (8 * y.val), taken := true })

/-- RET, RET cc, RETI (R248 to R250): a return not taken does not read the stack; RETI sets ime at once. -/
def Obligations.Returns : Prop :=
  encode .ret = [0xC9] ∧ encode .reti = [0xD9] ∧
  ∀ s : State,
    exec .ret s = .next { afterPop s with pc := poppedWord s, taken := true } ∧
    exec .reti s = .next { afterPop s with pc := poppedWord s, taken := true, ime := true } ∧
    ∀ cc : Cond,
      encode (.retIf cc) = [0xC0 + 8 * cc.code] ∧
      transfersIf (.retIf cc) cc s { afterPop s with pc := poppedWord s }

/-! ### System -/

/-- NOP, DI, EI, STOP and the three cases of HALT (48_system.md R260 to R264; D8, D12, D13). The sample `s.irq` is
the one taken at the start of the step. -/
def Obligations.SystemInstructions : Prop :=
  encode .nop = [0x00] ∧ encode .di = [0xF3] ∧ encode .ei = [0xFB] ∧ encode .halt = [0x76] ∧
  ∀ (s : State) (pad : Byte),
    encode (.stop pad) = [0x10, pad] ∧
    exec .nop s = .next s ∧
    exec .di s = .next { s with ime := false, pendingEnable := false } ∧
    exec .ei s = .next { s with pendingEnable := true } ∧
    exec (.stop pad) s = .next { s with lowPower := true } ∧
    (s.ime = true → exec .halt s = .next { s with lowPower := true }) ∧
    (s.ime = false → s.irq = 0 → exec .halt s = .next { s with lowPower := true }) ∧
    (s.ime = false → s.irq ≠ 0 → exec .halt s = .next { s with haltBug := true })

/-- 0xCB is always the escape into the CB table (48_system.md R265; 30_encoding.md R98, R107): the pair decodes to a
CB entry, an instruction, whose encoding is the pair; and the table row of the prefix, which the decoder never
answers (log entry 8), does what that entry does. -/
def Obligations.PrefixEscapes : Prop :=
  ∀ (op : Byte) (rest : List Byte),
    decode (0xCB :: op :: rest) = .ok (cbRow op, rest) ∧
    encode (cbRow op) = [0xCB, op] ∧
    (cbRow op).wf = true ∧
    ∀ s : State, ∃ t, exec (cbRow op) s = .next t ∧ exec (.prefix_CB op) s = .next t

/-- A byte without an instruction (48_system.md R266; 60_exceptions.md R305; D7, D21): the latch takes the byte and
its address, PC still holds that address, and nothing else of the core changes but a wake-up that came first (log
entry 7); the one access of the step is the read of the byte. Then every step, and every tick that makes one, is
refused with the latched fault, until reset (R301, R341). -/
def Obligations.UnknownOpcodeLatches : Prop :=
  (∀ s : State, ∀ p ∈ ([(.illegal_D3, 0xD3), (.illegal_DB, 0xDB), (.illegal_DD, 0xDD), (.illegal_E3, 0xE3),
      (.illegal_E4, 0xE4), (.illegal_EB, 0xEB), (.illegal_EC, 0xEC), (.illegal_ED, 0xED), (.illegal_F4, 0xF4),
      (.illegal_FC, 0xFC), (.illegal_FD, 0xFD)] : List (Instr × Byte)),
    encode p.1 = [p.2] ∧ exec p.1 s = .next { s with fault := some { byte := p.2, addr := s.pc } }) ∧
  (∀ s : State, decodesAtPC s →
    (ready s).peek s.pc ∈ ([0xD3, 0xDB, 0xDD, 0xE3, 0xE4, 0xEB, 0xEC, 0xED, 0xF4, 0xFC, 0xFD] : List Byte) →
    step s = .next { (ready s).noteRead s.pc with
      fault := some { byte := (ready s).peek s.pc, addr := s.pc }
      bus := [.read s.pc ((ready s).peek s.pc)] }) ∧
  (∀ (s : State) (u : UnknownOpcode), s.fault = some u → s.input.reset = none →
    step s = .fault (.unknownOpcode u.byte u.addr) ∧
    ∀ unit : Config.CycleUnit, s.cycleDebt = 0 → tick unit s = .fault (.unknownOpcode u.byte u.addr))

/-! ### The step -/

/-- A STEP RUNS THE DECODED INSTRUCTION (60_exceptions.md R300; 20_memory.md R72): when nothing stands before it and
the bytes that reads at PC, PC + 1, PC + 2 return decode to a well-formed instruction, the step is that instruction
from the state with its bytes read in order and PC past them, followed by the driver's promotion and cost. -/
def Obligations.StepRunsDecoded : Prop :=
  ∀ (s : State) (i : Instr) (rest : List Byte), decodesAtPC s → s.haltBug = false →
    let at3 := [s.pc, s.pc + 1, s.pc + 2]
    decode (bytesRead at3 (ready s)) = .ok (i, rest) → i.wf = true →
    step s = mapNext (finished s.pendingEnable i)
      (exec i { afterReads (at3.take (3 - rest.length)) (ready s) with
        pc := s.pc + BitVec.ofNat 16 (3 - rest.length) })

/-- Decoding under the HALT bug (30_encoding.md R99, D12): the byte at PC serves as the opcode and, read again, as the
byte after it, PC advances by one less, and the bit is consumed. -/
def Obligations.HaltBugRepeatsByte : Prop :=
  ∀ (s : State) (i : Instr) (rest : List Byte), decodesAtPC s → s.haltBug = true →
    let at3 := [s.pc, s.pc, s.pc + 1]
    decode (bytesRead at3 (ready s)) = .ok (i, rest) → i.wf = true →
    step s = mapNext (finished s.pendingEnable i)
      (exec i { afterReads (at3.take (3 - rest.length)) (ready s) with
        pc := s.pc + BitVec.ofNat 16 (2 - rest.length)
        haltBug := false })

/-- Reset (70_reset_and_hazards.md R340; 10_state.md R45; D1, D2, D3, D28): from every state, latched fault and low
power included, the core takes the values of the table and the draw of RESET_GPR; memory and the BUS are the
environment's, no access is made. The host's reset state has the same values where the spec gives them (its RESET_GPR is log entry 1,
not stated here). -/
def Obligations.ResetFromAnyState : Prop :=
  (∀ (s : State) (g : ResetGpr), s.input.reset = some g →
    ∃ t, step s = .next t ∧ t.pc = 0x0100 ∧ t.sp = 0xFFFE ∧ t.ime = false ∧ t.pendingEnable = false ∧
      t.lowPower = false ∧ t.haltBug = false ∧ t.cycleDebt = 0 ∧ t.fault = none ∧
      (t.a, t.b, t.c, t.d, t.e, t.h, t.l, t.f) = (g.a, g.b, g.c, g.d, g.e, g.h, g.l, g.f) ∧
      t.f.toByte &&& 0x0F = 0 ∧ t.mem = Memory.writeAll s.mem s.input.pokes ∧ t.regions = s.regions ∧
      t.bus = [] ∧ t.ack = none ∧
      ∀ unit : Config.CycleUnit, tick unit s = .next t) ∧
  (State.reset.pc = 0x0100 ∧ State.reset.sp = 0xFFFE ∧ State.reset.ime = false ∧
    State.reset.pendingEnable = false ∧ State.reset.lowPower = false ∧ State.reset.haltBug = false ∧
    State.reset.cycleDebt = 0 ∧ State.reset.fault = none ∧ State.reset.f.toByte &&& 0x0F = 0)

/-- Low power (60_exceptions.md R302, D9): without a request the step changes no state of the core, makes no access
and costs 1; with one, the step is that of the same core awake. -/
def Obligations.IdleAndWakeUp : Prop :=
  ∀ s : State, s.input.reset = none → s.fault = none → s.lowPower = true →
    (s.input.irq = 0 → step s = .next { s with
      mem := Memory.writeAll s.mem s.input.pokes, inputs := s.inputs.tail, answers := s.input.answers, irq := 0
      ack := none, bus := [], taken := true, cost := 1 }) ∧
    (s.input.irq ≠ 0 → step s = step { s with lowPower := false })

/-- Interrupt entry (60_exceptions.md R311 to R314, D11): with ime set and line k the lowest one up, the step pushes
PC, clears the gate and the two hidden bits, goes to 0x0040 + 8k and acknowledges k, whatever stands at PC and
whether or not the core was asleep. -/
def Obligations.InterruptEntry : Prop :=
  ∀ (s : State) (k : Fin 5), s.input.reset = none → s.fault = none → s.ime = true →
    s.input.irq.getLsbD k.val = true → (∀ j : Nat, j < k.val → s.input.irq.getLsbD j = false) →
    step s = .next { pushed (ready s) s.pc with
      ime := false, pendingEnable := false, haltBug := false
      pc := 0x0040 + 8 * BitVec.ofNat 16 k.val, ack := some k, cost := 5 }

/-- EI's latency (60_exceptions.md R303, D14; 48_system.md R261, R262): in a step that executes an instruction and
does not fault, a pending enable becomes ime unless the instruction is DI; with none pending, only DI and RETI write
ime and only EI leaves an enable pending. -/
def Obligations.EnableLatency : Prop :=
  ∀ s t : State, decodesAtPC s → step s = .next t → t.fault = none →
    let i := (ready s).fetched
    (s.pendingEnable = true → t.ime = decide (i ≠ .di) ∧ t.pendingEnable = false) ∧
    (s.pendingEnable = false →
      t.ime = (if i = .di then false else if i = .reti then true else s.ime) ∧ t.pendingEnable = decide (i = .ei))

/-! ### What instructions leave alone -/

/-- FRAME of the control state (10_state.md R30 to R32, R40, R42): an instruction writes ime, the pending enable, low
power, the HALT-bug bit and the fault latch only where the spec says so, and never the cycle debt, the BUS, the
samples, the acknowledge or the cost. -/
def Obligations.ControlStateFrame : Prop :=
  ∀ (i : Instr) (s t : State), exec i s = .next t →
    (t.ime ≠ s.ime → i = .di ∨ i = .reti) ∧
    (t.pendingEnable ≠ s.pendingEnable → i = .di ∨ i = .ei) ∧
    (t.lowPower ≠ s.lowPower → i = .halt ∨ ∃ pad, i = .stop pad) ∧
    (t.haltBug ≠ s.haltBug → i = .halt) ∧
    (t.fault ≠ s.fault → i.isIllegal = true) ∧
    t.cycleDebt = s.cycleDebt ∧ t.regions = s.regions ∧ t.irq = s.irq ∧ t.inputs = s.inputs ∧ t.ack = s.ack ∧ t.cost = s.cost

/-- FRAME of the flags (49_loads.md R295 and the "Flags: none affected" lines): the instructions of `LeavesFlags` leave
all of F; 8-bit INC and DEC, BIT and CPL leave C; ADD HL, CPL, SCF and CCF leave Z; DAA leaves N. -/
def Obligations.FlagsFrame : Prop :=
  ∀ (i : Instr) (s t : State), exec i s = .next t →
    (LeavesFlags i → t.f = s.f) ∧
    ((∃ o, i = .inc o) ∨ (∃ o, i = .dec o) ∨ (∃ b o, i = .bit b o) ∨ i = .cpl → t.f.c = s.f.c) ∧
    ((∃ p, i = .addHL p) ∨ i = .cpl ∨ i = .scf ∨ i = .ccf → t.f.z = s.f.z) ∧
    (i = .daa → t.f.n = s.f.n)

/-- FRAME of the registers: whatever instruction runs, a general register, SP or PC that changed is one that the
instruction's rule names (10_state.md R21, R25, R26). -/
def Obligations.RegistersFrame : Prop :=
  ∀ (i : Instr) (s t : State), exec i s = .next t →
    (∀ r : Reg8, t.getReg r ≠ s.getReg r → WritesReg i r) ∧
    (t.sp ≠ s.sp → WritesSP i) ∧ (t.pc ≠ s.pc → WritesPC i)

/-- FRAME of memory: the byte held at every address outside those an instruction stores to, computed by `StoresAt`
from the state it starts in, is after it as before; an instruction that stores nothing leaves every byte. -/
def Obligations.MemoryFrame : Prop :=
  ∀ (i : Instr) (s t : State), exec i s = .next t →
    ∀ a : Word, ¬ StoresAt i s a → t.held a = s.held a

/-- Nothing fails at run time (60_exceptions.md R307; 00_scope.md R11): every instruction, from every state, answers a
next state; so does every step of a core without a latched fault and every reset; the only fault is the latched one,
and nothing is refused. -/
def Obligations.EveryInstructionCompletes : Prop :=
  (∀ (i : Instr) (s : State), ∃ t, exec i s = .next t) ∧
  (∀ s : State, s.fault = none ∨ s.input.reset ≠ none → ∃ t, step s = .next t) ∧
  (∀ (s : State) (r : Fault), step s = .fault r → ∃ u, s.fault = some u ∧ r = .unknownOpcode u.byte u.addr) ∧
  (∀ (s : State) (r : Refusal), step s ≠ .refused r)

/-! ### Whole machine -/

/-- AN INVARIANT THAT EVERY STEP KEEPS: canonical memory, no repeated fetch outstanding in a sleeping core, a fault
latch that holds one of the eleven bytes at the address PC still holds (in memory too, unless a device answered it),
and a cost of at most 6 M-cycles. -/
def Obligations.InvariantKept : Prop :=
  ∀ s t : State, s.Inv → step s = .next t → t.Inv

/-- The reset state meets the invariant. -/
def Obligations.InvariantAtReset : Prop :=
  State.reset.Inv

/-- The bus trace of a step is a sequentially consistent account of memory, whatever the BUS is (00_scope.md R10;
20_memory.md R72, R75, R81, D17; the kinds of address are log entry 4): replayed from memory as the environment left
it and its answers for the step, every read of the step returns the byte held then or, at a device, the next answer;
the writes to plain memory, and no others, give the memory after the step; and no step changes the BUS. -/
def Obligations.BusTraceIsSequential : Prop :=
  ∀ s t : State, s.input.reset = none → step s = .next t →
    replay s.regions (Memory.writeAll s.mem s.input.pokes) s.input.answers t.bus = some (t.mem, t.answers) ∧
    t.regions = s.regions

/-- What a step may depend on (00_scope.md R6; 70_reset_and_hazards.md R355): not the cycle debt, which it only carries
along, and none of the reports, samples and answers of the step before. -/
def Obligations.StepIgnoresDebtAndReports : Prop :=
  ∀ (s : State) (d c : Nat) (b : List BusAccess) (k : Option (Fin 5)) (x : Bool) (q : BitVec 5) (as : List Byte),
    s.input.reset = none →
    step { s with cycleDebt := d, cost := c, bus := b, ack := k, taken := x, irq := q, answers := as } =
      mapNext (fun t => { t with cycleDebt := d }) (step s)

/-- The clocked wrapper (70_reset_and_hazards.md R351, D15): a tick with a debt only counts it down; a tick without one
is a step, after which the cost less one is owed; so the debt never passes 5 M-cycles or 23 T-cycles (10_state.md
R41). -/
def Obligations.TickCountsDown : Prop :=
  ∀ (unit : Config.CycleUnit) (s : State), s.input.reset = none →
    (∀ n, s.cycleDebt = n + 1 → tick unit s = .next { s with cycleDebt := n }) ∧
    (∀ t, s.cycleDebt = 0 → step s = .next t →
      tick unit s = .next { t with cycleDebt := t.cost * (match unit with | .machine => 1 | .clock => 4) - 1 }) ∧
    (∀ t, s.cycleDebt ≤ debtLimit unit → tick unit s = .next t → t.cycleDebt ≤ debtLimit unit)

/-- The cycle costs (70_reset_and_hazards.md R353), row by row of its table, as (taken, not taken). -/
def Obligations.CycleCosts : Prop :=
  (∀ i ∈ ([.nop, .di, .ei, .halt, .daa, .cpl, .scf, .ccf, .rlca, .rrca, .rla, .rra, .jp_HL] : List Instr),
    cycles i = (1, 1)) ∧
  (∀ (r q : Reg8) (op : AluOp) (pad : Byte), ∀ i ∈ ([.stop pad, .ldReg r (.reg q), .inc (.reg r), .dec (.reg r),
    .alu op (.reg r)] : List Instr), cycles i = (1, 1)) ∧
  (∀ (r : Reg8) (op : AluOp) (n8 : Byte), ∀ i ∈ ([.ldImm (.reg r) n8, .aluImm op n8, .ldReg r .memHL, .ldStore r,
    .alu op .memHL, .ld_A_mBC, .ld_A_mDE, .ld_mBC_A, .ld_mDE_A, .ld_mHLi_A, .ld_mHLd_A, .ld_A_mHLi, .ld_A_mHLd,
    .ldh_A_mC, .ldh_mC_A, .ld_SP_HL] : List Instr), cycles i = (2, 2)) ∧
  (∀ p : Pair, ∀ i ∈ ([.incPair p, .decPair p, .addHL p] : List Instr), cycles i = (2, 2)) ∧
  (∀ (n8 : Byte) (v : Word) (p : Pair) (k : StackPair), ∀ i ∈ ([.ldImm .memHL n8, .ldh_A_ma8 n8, .ldh_ma8_A n8,
    .inc .memHL, .dec .memHL, .ldPair p v, .pop k, .ld_HL_SPe8 n8, .jr_e8 n8] : List Instr), cycles i = (3, 3)) ∧
  (∀ (n8 : Byte) (v : Word) (k : StackPair) (y : Fin 8), ∀ i ∈ ([.push k, .add_SP_e8 n8, .ld_A_ma16 v, .ld_ma16_A v,
    .jp_a16 v, .ret, .reti, .rst y] : List Instr), cycles i = (4, 4)) ∧
  (∀ v : Word, cycles (.ld_ma16_SP v) = (5, 5) ∧ cycles (.call_a16 v) = (6, 6)) ∧
  (∀ (cc : Cond) (e8 : Byte) (v : Word), cycles (.jrIf cc e8) = (3, 2) ∧ cycles (.jpIf cc v) = (4, 3) ∧
    cycles (.callIf cc v) = (6, 3) ∧ cycles (.retIf cc) = (5, 2)) ∧
  (∀ (r : Reg8) (op : RotOp) (b : Fin 8), ∀ i ∈ ([.rot op (.reg r), .bit b (.reg r), .res b (.reg r),
    .set b (.reg r)] : List Instr), cycles i = (2, 2)) ∧
  (∀ (op : RotOp) (b : Fin 8), cycles (.bit b .memHL) = (3, 3) ∧
    ∀ i ∈ ([.rot op .memHL, .res b .memHL, .set b .memHL] : List Instr), cycles i = (4, 4)) ∧
  (∀ i : Instr, i.wf = false → cycles i = (0, 0))
end

