-- ==== Sys2Proof/Laws/Decode.lean ====
section
/-! SUPPORT. What the decoder answers, by the number of bytes after the opcode byte, so that later proofs do not unfold
`decode`; and a word from its two bytes. -/

namespace Sys2Proof

/-- A word is its high byte followed by its low byte. -/
theorem word_of_bytes (v : Word) : (v.extractLsb' 8 8 : Byte) ++ (v.extractLsb' 0 8 : Byte) = v := by
  apply BitVec.eq_of_getLsbD_eq
  intro i hi
  rw [BitVec.getLsbD_append]
  simp only [BitVec.getLsbD_extractLsb']
  by_cases h : i < 8
  · simp [h]
  · simp [h, show i - 8 < 8 by omega, show 8 + (i - 8) = i by omega]

/-- The high byte of a word made of two bytes. -/
theorem high_of_word (msb lsb : Byte) : (msb ++ lsb : Word).extractLsb' 8 8 = msb := by
  apply BitVec.eq_of_getLsbD_eq
  intro i hi
  simp only [BitVec.getLsbD_extractLsb', hi, decide_true, Bool.true_and]
  rw [BitVec.getLsbD_append]
  simp

/-- The low byte of a word made of two bytes. -/
theorem low_of_word (msb lsb : Byte) : (msb ++ lsb : Word).extractLsb' 0 8 = lsb := by
  apply BitVec.eq_of_getLsbD_eq
  intro i hi
  simp only [BitVec.getLsbD_extractLsb', hi, decide_true, Bool.true_and]
  rw [BitVec.getLsbD_append]
  simp [hi]

/-- To prove something of every byte it is enough to prove it of the 256 numerals. -/
theorem byte_cases {P : Byte → Prop} (h : ∀ k < 256, P (BitVec.ofNat 8 k)) (b : Byte) : P b := by
  have := h b.toNat b.isLt
  rwa [BitVec.ofNat_toNat, BitVec.setWidth_eq] at this

theorem decode_nil : decode [] = .error .noByte := rfl

theorem decode_truncated {b0 : Byte} {bs : List Byte} (h : bs.length < operandBytes b0) :
    decode (b0 :: bs) = .error (.truncated b0) := by
  simp [decode, h]

theorem decode_cons {b0 : Byte} {bs : List Byte} (h : operandBytes b0 ≤ bs.length) :
    decode (b0 :: bs) = .ok (decodeRow b0 (bs.getD 0 0) (bs.getD 1 0), bs.drop (operandBytes b0)) := by
  simp [decode, Nat.not_lt.mpr h]

theorem decode_one {b0 : Byte} (rest : List Byte) (h : operandBytes b0 = 0) :
    decode (b0 :: rest) = .ok (decodeRow b0 (rest.getD 0 0) (rest.getD 1 0), rest) := by
  rw [decode_cons (by omega), h, List.drop_zero]

theorem decode_two {b0 : Byte} (b1 : Byte) (rest : List Byte) (h : operandBytes b0 = 1) :
    decode (b0 :: b1 :: rest) = .ok (decodeRow b0 b1 (rest.getD 0 0), rest) := by
  rw [decode_cons (by simp [h]), h]
  rfl

theorem decode_three {b0 : Byte} (b1 b2 : Byte) (rest : List Byte) (h : operandBytes b0 = 2) :
    decode (b0 :: b1 :: b2 :: rest) = .ok (decodeRow b0 b1 b2, rest) := by
  rw [decode_cons (by simp [h]), h]
  rfl

/-- A decoding that succeeds, taken apart. -/
theorem decode_ok {bs rest : List Byte} {i : Instr} (h : decode bs = .ok (i, rest)) :
    ∃ b0 tail, bs = b0 :: tail ∧ operandBytes b0 ≤ tail.length ∧
      i = decodeRow b0 (tail.getD 0 0) (tail.getD 1 0) ∧ rest = tail.drop (operandBytes b0) := by
  cases bs with
  | nil => simp [decode] at h
  | cons b0 tail =>
    by_cases hl : tail.length < operandBytes b0
    · rw [decode_truncated hl] at h
      simp at h
    · rw [decode_cons (by omega)] at h
      simp only [Except.ok.injEq, Prod.mk.injEq] at h
      exact ⟨b0, tail, rfl, by omega, h.1.symm, h.2.symm⟩

/-- No byte calls for more than two operand bytes. -/
theorem operandBytes_le (b0 : Byte) : operandBytes b0 ≤ 2 := by
  unfold operandBytes
  split <;> (try split) <;> omega

end Sys2Proof
end

