-- ==== Sys2Proof/Laws/State.lean ====
section
/-! SUPPORT. One lemma per field per named update of the state, so that no later proof unfolds a record update. -/

namespace Sys2Proof.Machine

/-! ### noteRead -/

@[simp] theorem State.noteRead_a (s : State) (addr : Word) : (s.noteRead addr).a = s.a := rfl
@[simp] theorem State.noteRead_b (s : State) (addr : Word) : (s.noteRead addr).b = s.b := rfl
@[simp] theorem State.noteRead_c (s : State) (addr : Word) : (s.noteRead addr).c = s.c := rfl
@[simp] theorem State.noteRead_d (s : State) (addr : Word) : (s.noteRead addr).d = s.d := rfl
@[simp] theorem State.noteRead_e (s : State) (addr : Word) : (s.noteRead addr).e = s.e := rfl
@[simp] theorem State.noteRead_h (s : State) (addr : Word) : (s.noteRead addr).h = s.h := rfl
@[simp] theorem State.noteRead_l (s : State) (addr : Word) : (s.noteRead addr).l = s.l := rfl
@[simp] theorem State.noteRead_f (s : State) (addr : Word) : (s.noteRead addr).f = s.f := rfl
@[simp] theorem State.noteRead_sp (s : State) (addr : Word) : (s.noteRead addr).sp = s.sp := rfl
@[simp] theorem State.noteRead_pc (s : State) (addr : Word) : (s.noteRead addr).pc = s.pc := rfl
@[simp] theorem State.noteRead_ime (s : State) (addr : Word) : (s.noteRead addr).ime = s.ime := rfl
@[simp] theorem State.noteRead_pendingEnable (s : State) (addr : Word) : (s.noteRead addr).pendingEnable = s.pendingEnable := rfl
@[simp] theorem State.noteRead_lowPower (s : State) (addr : Word) : (s.noteRead addr).lowPower = s.lowPower := rfl
@[simp] theorem State.noteRead_haltBug (s : State) (addr : Word) : (s.noteRead addr).haltBug = s.haltBug := rfl
@[simp] theorem State.noteRead_cycleDebt (s : State) (addr : Word) : (s.noteRead addr).cycleDebt = s.cycleDebt := rfl
@[simp] theorem State.noteRead_fault (s : State) (addr : Word) : (s.noteRead addr).fault = s.fault := rfl
@[simp] theorem State.noteRead_mem (s : State) (addr : Word) : (s.noteRead addr).mem = s.mem := rfl
@[simp] theorem State.noteRead_regions (s : State) (addr : Word) : (s.noteRead addr).regions = s.regions := rfl
@[simp] theorem State.noteRead_irq (s : State) (addr : Word) : (s.noteRead addr).irq = s.irq := rfl
@[simp] theorem State.noteRead_inputs (s : State) (addr : Word) : (s.noteRead addr).inputs = s.inputs := rfl
@[simp] theorem State.noteRead_answers (s : State) (addr : Word) : (s.noteRead addr).answers = s.answersAfter addr := rfl
@[simp] theorem State.noteRead_ack (s : State) (addr : Word) : (s.noteRead addr).ack = s.ack := rfl
@[simp] theorem State.noteRead_bus (s : State) (addr : Word) : (s.noteRead addr).bus = s.bus ++ [.read addr (s.peek addr)] := rfl
@[simp] theorem State.noteRead_taken (s : State) (addr : Word) : (s.noteRead addr).taken = s.taken := rfl
@[simp] theorem State.noteRead_cost (s : State) (addr : Word) : (s.noteRead addr).cost = s.cost := rfl

/-! ### noteRead16 -/

@[simp] theorem State.noteRead16_a (s : State) (addr : Word) : (s.noteRead16 addr).a = s.a := rfl
@[simp] theorem State.noteRead16_b (s : State) (addr : Word) : (s.noteRead16 addr).b = s.b := rfl
@[simp] theorem State.noteRead16_c (s : State) (addr : Word) : (s.noteRead16 addr).c = s.c := rfl
@[simp] theorem State.noteRead16_d (s : State) (addr : Word) : (s.noteRead16 addr).d = s.d := rfl
@[simp] theorem State.noteRead16_e (s : State) (addr : Word) : (s.noteRead16 addr).e = s.e := rfl
@[simp] theorem State.noteRead16_h (s : State) (addr : Word) : (s.noteRead16 addr).h = s.h := rfl
@[simp] theorem State.noteRead16_l (s : State) (addr : Word) : (s.noteRead16 addr).l = s.l := rfl
@[simp] theorem State.noteRead16_f (s : State) (addr : Word) : (s.noteRead16 addr).f = s.f := rfl
@[simp] theorem State.noteRead16_sp (s : State) (addr : Word) : (s.noteRead16 addr).sp = s.sp := rfl
@[simp] theorem State.noteRead16_pc (s : State) (addr : Word) : (s.noteRead16 addr).pc = s.pc := rfl
@[simp] theorem State.noteRead16_ime (s : State) (addr : Word) : (s.noteRead16 addr).ime = s.ime := rfl
@[simp] theorem State.noteRead16_pendingEnable (s : State) (addr : Word) : (s.noteRead16 addr).pendingEnable = s.pendingEnable := rfl
@[simp] theorem State.noteRead16_lowPower (s : State) (addr : Word) : (s.noteRead16 addr).lowPower = s.lowPower := rfl
@[simp] theorem State.noteRead16_haltBug (s : State) (addr : Word) : (s.noteRead16 addr).haltBug = s.haltBug := rfl
@[simp] theorem State.noteRead16_cycleDebt (s : State) (addr : Word) : (s.noteRead16 addr).cycleDebt = s.cycleDebt := rfl
@[simp] theorem State.noteRead16_fault (s : State) (addr : Word) : (s.noteRead16 addr).fault = s.fault := rfl
@[simp] theorem State.noteRead16_mem (s : State) (addr : Word) : (s.noteRead16 addr).mem = s.mem := rfl
@[simp] theorem State.noteRead16_regions (s : State) (addr : Word) : (s.noteRead16 addr).regions = s.regions := rfl
@[simp] theorem State.noteRead16_irq (s : State) (addr : Word) : (s.noteRead16 addr).irq = s.irq := rfl
@[simp] theorem State.noteRead16_inputs (s : State) (addr : Word) : (s.noteRead16 addr).inputs = s.inputs := rfl
@[simp] theorem State.noteRead16_ack (s : State) (addr : Word) : (s.noteRead16 addr).ack = s.ack := rfl
@[simp] theorem State.noteRead16_taken (s : State) (addr : Word) : (s.noteRead16 addr).taken = s.taken := rfl
@[simp] theorem State.noteRead16_cost (s : State) (addr : Word) : (s.noteRead16 addr).cost = s.cost := rfl

/-! ### store -/

@[simp] theorem State.store_a (s : State) (addr : Word) (v : Byte) : (s.store addr v).a = s.a := rfl
@[simp] theorem State.store_b (s : State) (addr : Word) (v : Byte) : (s.store addr v).b = s.b := rfl
@[simp] theorem State.store_c (s : State) (addr : Word) (v : Byte) : (s.store addr v).c = s.c := rfl
@[simp] theorem State.store_d (s : State) (addr : Word) (v : Byte) : (s.store addr v).d = s.d := rfl
@[simp] theorem State.store_e (s : State) (addr : Word) (v : Byte) : (s.store addr v).e = s.e := rfl
@[simp] theorem State.store_h (s : State) (addr : Word) (v : Byte) : (s.store addr v).h = s.h := rfl
@[simp] theorem State.store_l (s : State) (addr : Word) (v : Byte) : (s.store addr v).l = s.l := rfl
@[simp] theorem State.store_f (s : State) (addr : Word) (v : Byte) : (s.store addr v).f = s.f := rfl
@[simp] theorem State.store_sp (s : State) (addr : Word) (v : Byte) : (s.store addr v).sp = s.sp := rfl
@[simp] theorem State.store_pc (s : State) (addr : Word) (v : Byte) : (s.store addr v).pc = s.pc := rfl
@[simp] theorem State.store_ime (s : State) (addr : Word) (v : Byte) : (s.store addr v).ime = s.ime := rfl
@[simp] theorem State.store_pendingEnable (s : State) (addr : Word) (v : Byte) : (s.store addr v).pendingEnable = s.pendingEnable := rfl
@[simp] theorem State.store_lowPower (s : State) (addr : Word) (v : Byte) : (s.store addr v).lowPower = s.lowPower := rfl
@[simp] theorem State.store_haltBug (s : State) (addr : Word) (v : Byte) : (s.store addr v).haltBug = s.haltBug := rfl
@[simp] theorem State.store_cycleDebt (s : State) (addr : Word) (v : Byte) : (s.store addr v).cycleDebt = s.cycleDebt := rfl
@[simp] theorem State.store_fault (s : State) (addr : Word) (v : Byte) : (s.store addr v).fault = s.fault := rfl
@[simp] theorem State.store_mem (s : State) (addr : Word) (v : Byte) : (s.store addr v).mem = s.memAfter addr v := rfl
@[simp] theorem State.store_regions (s : State) (addr : Word) (v : Byte) : (s.store addr v).regions = s.regions := rfl
@[simp] theorem State.store_irq (s : State) (addr : Word) (v : Byte) : (s.store addr v).irq = s.irq := rfl
@[simp] theorem State.store_inputs (s : State) (addr : Word) (v : Byte) : (s.store addr v).inputs = s.inputs := rfl
@[simp] theorem State.store_answers (s : State) (addr : Word) (v : Byte) : (s.store addr v).answers = s.answers := rfl
@[simp] theorem State.store_ack (s : State) (addr : Word) (v : Byte) : (s.store addr v).ack = s.ack := rfl
@[simp] theorem State.store_bus (s : State) (addr : Word) (v : Byte) : (s.store addr v).bus = s.bus ++ [.write addr v] := rfl
@[simp] theorem State.store_taken (s : State) (addr : Word) (v : Byte) : (s.store addr v).taken = s.taken := rfl
@[simp] theorem State.store_cost (s : State) (addr : Word) (v : Byte) : (s.store addr v).cost = s.cost := rfl

/-! ### store16 -/

@[simp] theorem State.store16_a (s : State) (addr v : Word) : (s.store16 addr v).a = s.a := rfl
@[simp] theorem State.store16_b (s : State) (addr v : Word) : (s.store16 addr v).b = s.b := rfl
@[simp] theorem State.store16_c (s : State) (addr v : Word) : (s.store16 addr v).c = s.c := rfl
@[simp] theorem State.store16_d (s : State) (addr v : Word) : (s.store16 addr v).d = s.d := rfl
@[simp] theorem State.store16_e (s : State) (addr v : Word) : (s.store16 addr v).e = s.e := rfl
@[simp] theorem State.store16_h (s : State) (addr v : Word) : (s.store16 addr v).h = s.h := rfl
@[simp] theorem State.store16_l (s : State) (addr v : Word) : (s.store16 addr v).l = s.l := rfl
@[simp] theorem State.store16_f (s : State) (addr v : Word) : (s.store16 addr v).f = s.f := rfl
@[simp] theorem State.store16_sp (s : State) (addr v : Word) : (s.store16 addr v).sp = s.sp := rfl
@[simp] theorem State.store16_pc (s : State) (addr v : Word) : (s.store16 addr v).pc = s.pc := rfl
@[simp] theorem State.store16_ime (s : State) (addr v : Word) : (s.store16 addr v).ime = s.ime := rfl
@[simp] theorem State.store16_pendingEnable (s : State) (addr v : Word) : (s.store16 addr v).pendingEnable = s.pendingEnable := rfl
@[simp] theorem State.store16_lowPower (s : State) (addr v : Word) : (s.store16 addr v).lowPower = s.lowPower := rfl
@[simp] theorem State.store16_haltBug (s : State) (addr v : Word) : (s.store16 addr v).haltBug = s.haltBug := rfl
@[simp] theorem State.store16_cycleDebt (s : State) (addr v : Word) : (s.store16 addr v).cycleDebt = s.cycleDebt := rfl
@[simp] theorem State.store16_fault (s : State) (addr v : Word) : (s.store16 addr v).fault = s.fault := rfl
@[simp] theorem State.store16_mem (s : State) (addr v : Word) : (s.store16 addr v).mem = (s.store addr (lo v)).memAfter (addr + 1) (hi v) := rfl
@[simp] theorem State.store16_regions (s : State) (addr v : Word) : (s.store16 addr v).regions = s.regions := rfl
@[simp] theorem State.store16_irq (s : State) (addr v : Word) : (s.store16 addr v).irq = s.irq := rfl
@[simp] theorem State.store16_inputs (s : State) (addr v : Word) : (s.store16 addr v).inputs = s.inputs := rfl
@[simp] theorem State.store16_answers (s : State) (addr v : Word) : (s.store16 addr v).answers = s.answers := rfl
@[simp] theorem State.store16_ack (s : State) (addr v : Word) : (s.store16 addr v).ack = s.ack := rfl
@[simp] theorem State.store16_bus (s : State) (addr v : Word) : (s.store16 addr v).bus = s.bus ++ [.write addr (lo v)] ++ [.write (addr + 1) (hi v)] := rfl
@[simp] theorem State.store16_taken (s : State) (addr v : Word) : (s.store16 addr v).taken = s.taken := rfl
@[simp] theorem State.store16_cost (s : State) (addr v : Word) : (s.store16 addr v).cost = s.cost := rfl

/-! ### push16 -/

@[simp] theorem State.push16_a (s : State) (v : Word) : (s.push16 v).a = s.a := rfl
@[simp] theorem State.push16_b (s : State) (v : Word) : (s.push16 v).b = s.b := rfl
@[simp] theorem State.push16_c (s : State) (v : Word) : (s.push16 v).c = s.c := rfl
@[simp] theorem State.push16_d (s : State) (v : Word) : (s.push16 v).d = s.d := rfl
@[simp] theorem State.push16_e (s : State) (v : Word) : (s.push16 v).e = s.e := rfl
@[simp] theorem State.push16_h (s : State) (v : Word) : (s.push16 v).h = s.h := rfl
@[simp] theorem State.push16_l (s : State) (v : Word) : (s.push16 v).l = s.l := rfl
@[simp] theorem State.push16_f (s : State) (v : Word) : (s.push16 v).f = s.f := rfl
@[simp] theorem State.push16_sp (s : State) (v : Word) : (s.push16 v).sp = s.sp - 2 := rfl
@[simp] theorem State.push16_pc (s : State) (v : Word) : (s.push16 v).pc = s.pc := rfl
@[simp] theorem State.push16_ime (s : State) (v : Word) : (s.push16 v).ime = s.ime := rfl
@[simp] theorem State.push16_pendingEnable (s : State) (v : Word) : (s.push16 v).pendingEnable = s.pendingEnable := rfl
@[simp] theorem State.push16_lowPower (s : State) (v : Word) : (s.push16 v).lowPower = s.lowPower := rfl
@[simp] theorem State.push16_haltBug (s : State) (v : Word) : (s.push16 v).haltBug = s.haltBug := rfl
@[simp] theorem State.push16_cycleDebt (s : State) (v : Word) : (s.push16 v).cycleDebt = s.cycleDebt := rfl
@[simp] theorem State.push16_fault (s : State) (v : Word) : (s.push16 v).fault = s.fault := rfl
@[simp] theorem State.push16_mem (s : State) (v : Word) : (s.push16 v).mem = (s.store (s.sp - 1) (hi v)).memAfter (s.sp - 2) (lo v) := rfl
@[simp] theorem State.push16_regions (s : State) (v : Word) : (s.push16 v).regions = s.regions := rfl
@[simp] theorem State.push16_irq (s : State) (v : Word) : (s.push16 v).irq = s.irq := rfl
@[simp] theorem State.push16_inputs (s : State) (v : Word) : (s.push16 v).inputs = s.inputs := rfl
@[simp] theorem State.push16_answers (s : State) (v : Word) : (s.push16 v).answers = s.answers := rfl
@[simp] theorem State.push16_ack (s : State) (v : Word) : (s.push16 v).ack = s.ack := rfl
@[simp] theorem State.push16_bus (s : State) (v : Word) : (s.push16 v).bus = s.bus ++ [.write (s.sp - 1) (hi v)] ++ [.write (s.sp - 2) (lo v)] := rfl
@[simp] theorem State.push16_taken (s : State) (v : Word) : (s.push16 v).taken = s.taken := rfl
@[simp] theorem State.push16_cost (s : State) (v : Word) : (s.push16 v).cost = s.cost := rfl

/-! ### popped -/

@[simp] theorem State.popped_a (s : State) : (s.popped).a = s.a := rfl
@[simp] theorem State.popped_b (s : State) : (s.popped).b = s.b := rfl
@[simp] theorem State.popped_c (s : State) : (s.popped).c = s.c := rfl
@[simp] theorem State.popped_d (s : State) : (s.popped).d = s.d := rfl
@[simp] theorem State.popped_e (s : State) : (s.popped).e = s.e := rfl
@[simp] theorem State.popped_h (s : State) : (s.popped).h = s.h := rfl
@[simp] theorem State.popped_l (s : State) : (s.popped).l = s.l := rfl
@[simp] theorem State.popped_f (s : State) : (s.popped).f = s.f := rfl
@[simp] theorem State.popped_sp (s : State) : (s.popped).sp = s.sp + 2 := rfl
@[simp] theorem State.popped_pc (s : State) : (s.popped).pc = s.pc := rfl
@[simp] theorem State.popped_ime (s : State) : (s.popped).ime = s.ime := rfl
@[simp] theorem State.popped_pendingEnable (s : State) : (s.popped).pendingEnable = s.pendingEnable := rfl
@[simp] theorem State.popped_lowPower (s : State) : (s.popped).lowPower = s.lowPower := rfl
@[simp] theorem State.popped_haltBug (s : State) : (s.popped).haltBug = s.haltBug := rfl
@[simp] theorem State.popped_cycleDebt (s : State) : (s.popped).cycleDebt = s.cycleDebt := rfl
@[simp] theorem State.popped_fault (s : State) : (s.popped).fault = s.fault := rfl
@[simp] theorem State.popped_mem (s : State) : (s.popped).mem = s.mem := rfl
@[simp] theorem State.popped_regions (s : State) : (s.popped).regions = s.regions := rfl
@[simp] theorem State.popped_irq (s : State) : (s.popped).irq = s.irq := rfl
@[simp] theorem State.popped_inputs (s : State) : (s.popped).inputs = s.inputs := rfl
@[simp] theorem State.popped_ack (s : State) : (s.popped).ack = s.ack := rfl
@[simp] theorem State.popped_taken (s : State) : (s.popped).taken = s.taken := rfl
@[simp] theorem State.popped_cost (s : State) : (s.popped).cost = s.cost := rfl

/-! ### setReg -/

@[simp] theorem State.setReg_f (s : State) (r : Reg8) (v : Byte) : (s.setReg r v).f = s.f := by cases r <;> rfl
@[simp] theorem State.setReg_sp (s : State) (r : Reg8) (v : Byte) : (s.setReg r v).sp = s.sp := by cases r <;> rfl
@[simp] theorem State.setReg_pc (s : State) (r : Reg8) (v : Byte) : (s.setReg r v).pc = s.pc := by cases r <;> rfl
@[simp] theorem State.setReg_ime (s : State) (r : Reg8) (v : Byte) : (s.setReg r v).ime = s.ime := by cases r <;> rfl
@[simp] theorem State.setReg_pendingEnable (s : State) (r : Reg8) (v : Byte) : (s.setReg r v).pendingEnable = s.pendingEnable := by cases r <;> rfl
@[simp] theorem State.setReg_lowPower (s : State) (r : Reg8) (v : Byte) : (s.setReg r v).lowPower = s.lowPower := by cases r <;> rfl
@[simp] theorem State.setReg_haltBug (s : State) (r : Reg8) (v : Byte) : (s.setReg r v).haltBug = s.haltBug := by cases r <;> rfl
@[simp] theorem State.setReg_cycleDebt (s : State) (r : Reg8) (v : Byte) : (s.setReg r v).cycleDebt = s.cycleDebt := by cases r <;> rfl
@[simp] theorem State.setReg_fault (s : State) (r : Reg8) (v : Byte) : (s.setReg r v).fault = s.fault := by cases r <;> rfl
@[simp] theorem State.setReg_mem (s : State) (r : Reg8) (v : Byte) : (s.setReg r v).mem = s.mem := by cases r <;> rfl
@[simp] theorem State.setReg_regions (s : State) (r : Reg8) (v : Byte) : (s.setReg r v).regions = s.regions := by cases r <;> rfl
@[simp] theorem State.setReg_irq (s : State) (r : Reg8) (v : Byte) : (s.setReg r v).irq = s.irq := by cases r <;> rfl
@[simp] theorem State.setReg_inputs (s : State) (r : Reg8) (v : Byte) : (s.setReg r v).inputs = s.inputs := by cases r <;> rfl
@[simp] theorem State.setReg_answers (s : State) (r : Reg8) (v : Byte) : (s.setReg r v).answers = s.answers := by cases r <;> rfl
@[simp] theorem State.setReg_ack (s : State) (r : Reg8) (v : Byte) : (s.setReg r v).ack = s.ack := by cases r <;> rfl
@[simp] theorem State.setReg_bus (s : State) (r : Reg8) (v : Byte) : (s.setReg r v).bus = s.bus := by cases r <;> rfl
@[simp] theorem State.setReg_taken (s : State) (r : Reg8) (v : Byte) : (s.setReg r v).taken = s.taken := by cases r <;> rfl
@[simp] theorem State.setReg_cost (s : State) (r : Reg8) (v : Byte) : (s.setReg r v).cost = s.cost := by cases r <;> rfl

/-! ### setBC -/

@[simp] theorem State.setBC_a (s : State) (v : Word) : (s.setBC v).a = s.a := rfl
@[simp] theorem State.setBC_b (s : State) (v : Word) : (s.setBC v).b = hi v := rfl
@[simp] theorem State.setBC_c (s : State) (v : Word) : (s.setBC v).c = lo v := rfl
@[simp] theorem State.setBC_d (s : State) (v : Word) : (s.setBC v).d = s.d := rfl
@[simp] theorem State.setBC_e (s : State) (v : Word) : (s.setBC v).e = s.e := rfl
@[simp] theorem State.setBC_h (s : State) (v : Word) : (s.setBC v).h = s.h := rfl
@[simp] theorem State.setBC_l (s : State) (v : Word) : (s.setBC v).l = s.l := rfl
@[simp] theorem State.setBC_f (s : State) (v : Word) : (s.setBC v).f = s.f := rfl
@[simp] theorem State.setBC_sp (s : State) (v : Word) : (s.setBC v).sp = s.sp := rfl
@[simp] theorem State.setBC_pc (s : State) (v : Word) : (s.setBC v).pc = s.pc := rfl
@[simp] theorem State.setBC_ime (s : State) (v : Word) : (s.setBC v).ime = s.ime := rfl
@[simp] theorem State.setBC_pendingEnable (s : State) (v : Word) : (s.setBC v).pendingEnable = s.pendingEnable := rfl
@[simp] theorem State.setBC_lowPower (s : State) (v : Word) : (s.setBC v).lowPower = s.lowPower := rfl
@[simp] theorem State.setBC_haltBug (s : State) (v : Word) : (s.setBC v).haltBug = s.haltBug := rfl
@[simp] theorem State.setBC_cycleDebt (s : State) (v : Word) : (s.setBC v).cycleDebt = s.cycleDebt := rfl
@[simp] theorem State.setBC_fault (s : State) (v : Word) : (s.setBC v).fault = s.fault := rfl
@[simp] theorem State.setBC_mem (s : State) (v : Word) : (s.setBC v).mem = s.mem := rfl
@[simp] theorem State.setBC_regions (s : State) (v : Word) : (s.setBC v).regions = s.regions := rfl
@[simp] theorem State.setBC_irq (s : State) (v : Word) : (s.setBC v).irq = s.irq := rfl
@[simp] theorem State.setBC_inputs (s : State) (v : Word) : (s.setBC v).inputs = s.inputs := rfl
@[simp] theorem State.setBC_answers (s : State) (v : Word) : (s.setBC v).answers = s.answers := rfl
@[simp] theorem State.setBC_ack (s : State) (v : Word) : (s.setBC v).ack = s.ack := rfl
@[simp] theorem State.setBC_bus (s : State) (v : Word) : (s.setBC v).bus = s.bus := rfl
@[simp] theorem State.setBC_taken (s : State) (v : Word) : (s.setBC v).taken = s.taken := rfl
@[simp] theorem State.setBC_cost (s : State) (v : Word) : (s.setBC v).cost = s.cost := rfl

/-! ### setDE -/

@[simp] theorem State.setDE_a (s : State) (v : Word) : (s.setDE v).a = s.a := rfl
@[simp] theorem State.setDE_b (s : State) (v : Word) : (s.setDE v).b = s.b := rfl
@[simp] theorem State.setDE_c (s : State) (v : Word) : (s.setDE v).c = s.c := rfl
@[simp] theorem State.setDE_d (s : State) (v : Word) : (s.setDE v).d = hi v := rfl
@[simp] theorem State.setDE_e (s : State) (v : Word) : (s.setDE v).e = lo v := rfl
@[simp] theorem State.setDE_h (s : State) (v : Word) : (s.setDE v).h = s.h := rfl
@[simp] theorem State.setDE_l (s : State) (v : Word) : (s.setDE v).l = s.l := rfl
@[simp] theorem State.setDE_f (s : State) (v : Word) : (s.setDE v).f = s.f := rfl
@[simp] theorem State.setDE_sp (s : State) (v : Word) : (s.setDE v).sp = s.sp := rfl
@[simp] theorem State.setDE_pc (s : State) (v : Word) : (s.setDE v).pc = s.pc := rfl
@[simp] theorem State.setDE_ime (s : State) (v : Word) : (s.setDE v).ime = s.ime := rfl
@[simp] theorem State.setDE_pendingEnable (s : State) (v : Word) : (s.setDE v).pendingEnable = s.pendingEnable := rfl
@[simp] theorem State.setDE_lowPower (s : State) (v : Word) : (s.setDE v).lowPower = s.lowPower := rfl
@[simp] theorem State.setDE_haltBug (s : State) (v : Word) : (s.setDE v).haltBug = s.haltBug := rfl
@[simp] theorem State.setDE_cycleDebt (s : State) (v : Word) : (s.setDE v).cycleDebt = s.cycleDebt := rfl
@[simp] theorem State.setDE_fault (s : State) (v : Word) : (s.setDE v).fault = s.fault := rfl
@[simp] theorem State.setDE_mem (s : State) (v : Word) : (s.setDE v).mem = s.mem := rfl
@[simp] theorem State.setDE_regions (s : State) (v : Word) : (s.setDE v).regions = s.regions := rfl
@[simp] theorem State.setDE_irq (s : State) (v : Word) : (s.setDE v).irq = s.irq := rfl
@[simp] theorem State.setDE_inputs (s : State) (v : Word) : (s.setDE v).inputs = s.inputs := rfl
@[simp] theorem State.setDE_answers (s : State) (v : Word) : (s.setDE v).answers = s.answers := rfl
@[simp] theorem State.setDE_ack (s : State) (v : Word) : (s.setDE v).ack = s.ack := rfl
@[simp] theorem State.setDE_bus (s : State) (v : Word) : (s.setDE v).bus = s.bus := rfl
@[simp] theorem State.setDE_taken (s : State) (v : Word) : (s.setDE v).taken = s.taken := rfl
@[simp] theorem State.setDE_cost (s : State) (v : Word) : (s.setDE v).cost = s.cost := rfl

/-! ### setHL -/

@[simp] theorem State.setHL_a (s : State) (v : Word) : (s.setHL v).a = s.a := rfl
@[simp] theorem State.setHL_b (s : State) (v : Word) : (s.setHL v).b = s.b := rfl
@[simp] theorem State.setHL_c (s : State) (v : Word) : (s.setHL v).c = s.c := rfl
@[simp] theorem State.setHL_d (s : State) (v : Word) : (s.setHL v).d = s.d := rfl
@[simp] theorem State.setHL_e (s : State) (v : Word) : (s.setHL v).e = s.e := rfl
@[simp] theorem State.setHL_h (s : State) (v : Word) : (s.setHL v).h = hi v := rfl
@[simp] theorem State.setHL_l (s : State) (v : Word) : (s.setHL v).l = lo v := rfl
@[simp] theorem State.setHL_f (s : State) (v : Word) : (s.setHL v).f = s.f := rfl
@[simp] theorem State.setHL_sp (s : State) (v : Word) : (s.setHL v).sp = s.sp := rfl
@[simp] theorem State.setHL_pc (s : State) (v : Word) : (s.setHL v).pc = s.pc := rfl
@[simp] theorem State.setHL_ime (s : State) (v : Word) : (s.setHL v).ime = s.ime := rfl
@[simp] theorem State.setHL_pendingEnable (s : State) (v : Word) : (s.setHL v).pendingEnable = s.pendingEnable := rfl
@[simp] theorem State.setHL_lowPower (s : State) (v : Word) : (s.setHL v).lowPower = s.lowPower := rfl
@[simp] theorem State.setHL_haltBug (s : State) (v : Word) : (s.setHL v).haltBug = s.haltBug := rfl
@[simp] theorem State.setHL_cycleDebt (s : State) (v : Word) : (s.setHL v).cycleDebt = s.cycleDebt := rfl
@[simp] theorem State.setHL_fault (s : State) (v : Word) : (s.setHL v).fault = s.fault := rfl
@[simp] theorem State.setHL_mem (s : State) (v : Word) : (s.setHL v).mem = s.mem := rfl
@[simp] theorem State.setHL_regions (s : State) (v : Word) : (s.setHL v).regions = s.regions := rfl
@[simp] theorem State.setHL_irq (s : State) (v : Word) : (s.setHL v).irq = s.irq := rfl
@[simp] theorem State.setHL_inputs (s : State) (v : Word) : (s.setHL v).inputs = s.inputs := rfl
@[simp] theorem State.setHL_answers (s : State) (v : Word) : (s.setHL v).answers = s.answers := rfl
@[simp] theorem State.setHL_ack (s : State) (v : Word) : (s.setHL v).ack = s.ack := rfl
@[simp] theorem State.setHL_bus (s : State) (v : Word) : (s.setHL v).bus = s.bus := rfl
@[simp] theorem State.setHL_taken (s : State) (v : Word) : (s.setHL v).taken = s.taken := rfl
@[simp] theorem State.setHL_cost (s : State) (v : Word) : (s.setHL v).cost = s.cost := rfl

/-! ### setAF -/

@[simp] theorem State.setAF_a (s : State) (v : Word) : (s.setAF v).a = hi v := rfl
@[simp] theorem State.setAF_b (s : State) (v : Word) : (s.setAF v).b = s.b := rfl
@[simp] theorem State.setAF_c (s : State) (v : Word) : (s.setAF v).c = s.c := rfl
@[simp] theorem State.setAF_d (s : State) (v : Word) : (s.setAF v).d = s.d := rfl
@[simp] theorem State.setAF_e (s : State) (v : Word) : (s.setAF v).e = s.e := rfl
@[simp] theorem State.setAF_h (s : State) (v : Word) : (s.setAF v).h = s.h := rfl
@[simp] theorem State.setAF_l (s : State) (v : Word) : (s.setAF v).l = s.l := rfl
@[simp] theorem State.setAF_f (s : State) (v : Word) : (s.setAF v).f = Flags.ofByte (lo v) := rfl
@[simp] theorem State.setAF_sp (s : State) (v : Word) : (s.setAF v).sp = s.sp := rfl
@[simp] theorem State.setAF_pc (s : State) (v : Word) : (s.setAF v).pc = s.pc := rfl
@[simp] theorem State.setAF_ime (s : State) (v : Word) : (s.setAF v).ime = s.ime := rfl
@[simp] theorem State.setAF_pendingEnable (s : State) (v : Word) : (s.setAF v).pendingEnable = s.pendingEnable := rfl
@[simp] theorem State.setAF_lowPower (s : State) (v : Word) : (s.setAF v).lowPower = s.lowPower := rfl
@[simp] theorem State.setAF_haltBug (s : State) (v : Word) : (s.setAF v).haltBug = s.haltBug := rfl
@[simp] theorem State.setAF_cycleDebt (s : State) (v : Word) : (s.setAF v).cycleDebt = s.cycleDebt := rfl
@[simp] theorem State.setAF_fault (s : State) (v : Word) : (s.setAF v).fault = s.fault := rfl
@[simp] theorem State.setAF_mem (s : State) (v : Word) : (s.setAF v).mem = s.mem := rfl
@[simp] theorem State.setAF_regions (s : State) (v : Word) : (s.setAF v).regions = s.regions := rfl
@[simp] theorem State.setAF_irq (s : State) (v : Word) : (s.setAF v).irq = s.irq := rfl
@[simp] theorem State.setAF_inputs (s : State) (v : Word) : (s.setAF v).inputs = s.inputs := rfl
@[simp] theorem State.setAF_answers (s : State) (v : Word) : (s.setAF v).answers = s.answers := rfl
@[simp] theorem State.setAF_ack (s : State) (v : Word) : (s.setAF v).ack = s.ack := rfl
@[simp] theorem State.setAF_bus (s : State) (v : Word) : (s.setAF v).bus = s.bus := rfl
@[simp] theorem State.setAF_taken (s : State) (v : Word) : (s.setAF v).taken = s.taken := rfl
@[simp] theorem State.setAF_cost (s : State) (v : Word) : (s.setAF v).cost = s.cost := rfl

/-! ### setPair -/

@[simp] theorem State.setPair_a (s : State) (p : Pair) (v : Word) : (s.setPair p v).a = s.a := by cases p <;> rfl
@[simp] theorem State.setPair_f (s : State) (p : Pair) (v : Word) : (s.setPair p v).f = s.f := by cases p <;> rfl
@[simp] theorem State.setPair_pc (s : State) (p : Pair) (v : Word) : (s.setPair p v).pc = s.pc := by cases p <;> rfl
@[simp] theorem State.setPair_ime (s : State) (p : Pair) (v : Word) : (s.setPair p v).ime = s.ime := by cases p <;> rfl
@[simp] theorem State.setPair_pendingEnable (s : State) (p : Pair) (v : Word) : (s.setPair p v).pendingEnable = s.pendingEnable := by cases p <;> rfl
@[simp] theorem State.setPair_lowPower (s : State) (p : Pair) (v : Word) : (s.setPair p v).lowPower = s.lowPower := by cases p <;> rfl
@[simp] theorem State.setPair_haltBug (s : State) (p : Pair) (v : Word) : (s.setPair p v).haltBug = s.haltBug := by cases p <;> rfl
@[simp] theorem State.setPair_cycleDebt (s : State) (p : Pair) (v : Word) : (s.setPair p v).cycleDebt = s.cycleDebt := by cases p <;> rfl
@[simp] theorem State.setPair_fault (s : State) (p : Pair) (v : Word) : (s.setPair p v).fault = s.fault := by cases p <;> rfl
@[simp] theorem State.setPair_mem (s : State) (p : Pair) (v : Word) : (s.setPair p v).mem = s.mem := by cases p <;> rfl
@[simp] theorem State.setPair_regions (s : State) (p : Pair) (v : Word) : (s.setPair p v).regions = s.regions := by cases p <;> rfl
@[simp] theorem State.setPair_irq (s : State) (p : Pair) (v : Word) : (s.setPair p v).irq = s.irq := by cases p <;> rfl
@[simp] theorem State.setPair_inputs (s : State) (p : Pair) (v : Word) : (s.setPair p v).inputs = s.inputs := by cases p <;> rfl
@[simp] theorem State.setPair_answers (s : State) (p : Pair) (v : Word) : (s.setPair p v).answers = s.answers := by cases p <;> rfl
@[simp] theorem State.setPair_ack (s : State) (p : Pair) (v : Word) : (s.setPair p v).ack = s.ack := by cases p <;> rfl
@[simp] theorem State.setPair_bus (s : State) (p : Pair) (v : Word) : (s.setPair p v).bus = s.bus := by cases p <;> rfl
@[simp] theorem State.setPair_taken (s : State) (p : Pair) (v : Word) : (s.setPair p v).taken = s.taken := by cases p <;> rfl
@[simp] theorem State.setPair_cost (s : State) (p : Pair) (v : Word) : (s.setPair p v).cost = s.cost := by cases p <;> rfl

/-! ### setStackPair -/

@[simp] theorem State.setStackPair_sp (s : State) (p : StackPair) (v : Word) : (s.setStackPair p v).sp = s.sp := by cases p <;> rfl
@[simp] theorem State.setStackPair_pc (s : State) (p : StackPair) (v : Word) : (s.setStackPair p v).pc = s.pc := by cases p <;> rfl
@[simp] theorem State.setStackPair_ime (s : State) (p : StackPair) (v : Word) : (s.setStackPair p v).ime = s.ime := by cases p <;> rfl
@[simp] theorem State.setStackPair_pendingEnable (s : State) (p : StackPair) (v : Word) : (s.setStackPair p v).pendingEnable = s.pendingEnable := by cases p <;> rfl
@[simp] theorem State.setStackPair_lowPower (s : State) (p : StackPair) (v : Word) : (s.setStackPair p v).lowPower = s.lowPower := by cases p <;> rfl
@[simp] theorem State.setStackPair_haltBug (s : State) (p : StackPair) (v : Word) : (s.setStackPair p v).haltBug = s.haltBug := by cases p <;> rfl
@[simp] theorem State.setStackPair_cycleDebt (s : State) (p : StackPair) (v : Word) : (s.setStackPair p v).cycleDebt = s.cycleDebt := by cases p <;> rfl
@[simp] theorem State.setStackPair_fault (s : State) (p : StackPair) (v : Word) : (s.setStackPair p v).fault = s.fault := by cases p <;> rfl
@[simp] theorem State.setStackPair_mem (s : State) (p : StackPair) (v : Word) : (s.setStackPair p v).mem = s.mem := by cases p <;> rfl
@[simp] theorem State.setStackPair_regions (s : State) (p : StackPair) (v : Word) : (s.setStackPair p v).regions = s.regions := by cases p <;> rfl
@[simp] theorem State.setStackPair_irq (s : State) (p : StackPair) (v : Word) : (s.setStackPair p v).irq = s.irq := by cases p <;> rfl
@[simp] theorem State.setStackPair_inputs (s : State) (p : StackPair) (v : Word) : (s.setStackPair p v).inputs = s.inputs := by cases p <;> rfl
@[simp] theorem State.setStackPair_answers (s : State) (p : StackPair) (v : Word) : (s.setStackPair p v).answers = s.answers := by cases p <;> rfl
@[simp] theorem State.setStackPair_ack (s : State) (p : StackPair) (v : Word) : (s.setStackPair p v).ack = s.ack := by cases p <;> rfl
@[simp] theorem State.setStackPair_bus (s : State) (p : StackPair) (v : Word) : (s.setStackPair p v).bus = s.bus := by cases p <;> rfl
@[simp] theorem State.setStackPair_taken (s : State) (p : StackPair) (v : Word) : (s.setStackPair p v).taken = s.taken := by cases p <;> rfl
@[simp] theorem State.setStackPair_cost (s : State) (p : StackPair) (v : Word) : (s.setStackPair p v).cost = s.cost := by cases p <;> rfl

/-! ### touch -/

@[simp] theorem State.touch_a (s : State) (o : Operand8) : (s.touch o).a = s.a := by cases o <;> rfl
@[simp] theorem State.touch_b (s : State) (o : Operand8) : (s.touch o).b = s.b := by cases o <;> rfl
@[simp] theorem State.touch_c (s : State) (o : Operand8) : (s.touch o).c = s.c := by cases o <;> rfl
@[simp] theorem State.touch_d (s : State) (o : Operand8) : (s.touch o).d = s.d := by cases o <;> rfl
@[simp] theorem State.touch_e (s : State) (o : Operand8) : (s.touch o).e = s.e := by cases o <;> rfl
@[simp] theorem State.touch_h (s : State) (o : Operand8) : (s.touch o).h = s.h := by cases o <;> rfl
@[simp] theorem State.touch_l (s : State) (o : Operand8) : (s.touch o).l = s.l := by cases o <;> rfl
@[simp] theorem State.touch_f (s : State) (o : Operand8) : (s.touch o).f = s.f := by cases o <;> rfl
@[simp] theorem State.touch_sp (s : State) (o : Operand8) : (s.touch o).sp = s.sp := by cases o <;> rfl
@[simp] theorem State.touch_pc (s : State) (o : Operand8) : (s.touch o).pc = s.pc := by cases o <;> rfl
@[simp] theorem State.touch_ime (s : State) (o : Operand8) : (s.touch o).ime = s.ime := by cases o <;> rfl
@[simp] theorem State.touch_pendingEnable (s : State) (o : Operand8) : (s.touch o).pendingEnable = s.pendingEnable := by cases o <;> rfl
@[simp] theorem State.touch_lowPower (s : State) (o : Operand8) : (s.touch o).lowPower = s.lowPower := by cases o <;> rfl
@[simp] theorem State.touch_haltBug (s : State) (o : Operand8) : (s.touch o).haltBug = s.haltBug := by cases o <;> rfl
@[simp] theorem State.touch_cycleDebt (s : State) (o : Operand8) : (s.touch o).cycleDebt = s.cycleDebt := by cases o <;> rfl
@[simp] theorem State.touch_fault (s : State) (o : Operand8) : (s.touch o).fault = s.fault := by cases o <;> rfl
@[simp] theorem State.touch_mem (s : State) (o : Operand8) : (s.touch o).mem = s.mem := by cases o <;> rfl
@[simp] theorem State.touch_regions (s : State) (o : Operand8) : (s.touch o).regions = s.regions := by cases o <;> rfl
@[simp] theorem State.touch_irq (s : State) (o : Operand8) : (s.touch o).irq = s.irq := by cases o <;> rfl
@[simp] theorem State.touch_inputs (s : State) (o : Operand8) : (s.touch o).inputs = s.inputs := by cases o <;> rfl
@[simp] theorem State.touch_ack (s : State) (o : Operand8) : (s.touch o).ack = s.ack := by cases o <;> rfl
@[simp] theorem State.touch_taken (s : State) (o : Operand8) : (s.touch o).taken = s.taken := by cases o <;> rfl
@[simp] theorem State.touch_cost (s : State) (o : Operand8) : (s.touch o).cost = s.cost := by cases o <;> rfl

/-! ### put -/

@[simp] theorem State.put_f (s : State) (o : Operand8) (v : Byte) : (s.put o v).f = s.f := by
  rcases o with r | _
  · cases r <;> rfl
  · rfl
@[simp] theorem State.put_sp (s : State) (o : Operand8) (v : Byte) : (s.put o v).sp = s.sp := by
  rcases o with r | _
  · cases r <;> rfl
  · rfl
@[simp] theorem State.put_pc (s : State) (o : Operand8) (v : Byte) : (s.put o v).pc = s.pc := by
  rcases o with r | _
  · cases r <;> rfl
  · rfl
@[simp] theorem State.put_ime (s : State) (o : Operand8) (v : Byte) : (s.put o v).ime = s.ime := by
  rcases o with r | _
  · cases r <;> rfl
  · rfl
@[simp] theorem State.put_pendingEnable (s : State) (o : Operand8) (v : Byte) : (s.put o v).pendingEnable = s.pendingEnable := by
  rcases o with r | _
  · cases r <;> rfl
  · rfl
@[simp] theorem State.put_lowPower (s : State) (o : Operand8) (v : Byte) : (s.put o v).lowPower = s.lowPower := by
  rcases o with r | _
  · cases r <;> rfl
  · rfl
@[simp] theorem State.put_haltBug (s : State) (o : Operand8) (v : Byte) : (s.put o v).haltBug = s.haltBug := by
  rcases o with r | _
  · cases r <;> rfl
  · rfl
@[simp] theorem State.put_cycleDebt (s : State) (o : Operand8) (v : Byte) : (s.put o v).cycleDebt = s.cycleDebt := by
  rcases o with r | _
  · cases r <;> rfl
  · rfl
@[simp] theorem State.put_fault (s : State) (o : Operand8) (v : Byte) : (s.put o v).fault = s.fault := by
  rcases o with r | _
  · cases r <;> rfl
  · rfl
@[simp] theorem State.put_regions (s : State) (o : Operand8) (v : Byte) : (s.put o v).regions = s.regions := by
  rcases o with r | _
  · cases r <;> rfl
  · rfl
@[simp] theorem State.put_irq (s : State) (o : Operand8) (v : Byte) : (s.put o v).irq = s.irq := by
  rcases o with r | _
  · cases r <;> rfl
  · rfl
@[simp] theorem State.put_inputs (s : State) (o : Operand8) (v : Byte) : (s.put o v).inputs = s.inputs := by
  rcases o with r | _
  · cases r <;> rfl
  · rfl
@[simp] theorem State.put_answers (s : State) (o : Operand8) (v : Byte) : (s.put o v).answers = s.answers := by
  rcases o with r | _
  · cases r <;> rfl
  · rfl
@[simp] theorem State.put_ack (s : State) (o : Operand8) (v : Byte) : (s.put o v).ack = s.ack := by
  rcases o with r | _
  · cases r <;> rfl
  · rfl
@[simp] theorem State.put_taken (s : State) (o : Operand8) (v : Byte) : (s.put o v).taken = s.taken := by
  rcases o with r | _
  · cases r <;> rfl
  · rfl
@[simp] theorem State.put_cost (s : State) (o : Operand8) (v : Byte) : (s.put o v).cost = s.cost := by
  rcases o with r | _
  · cases r <;> rfl
  · rfl

/-! ### wake -/

@[simp] theorem State.wake_a (s : State) : (s.wake).a = s.a := rfl
@[simp] theorem State.wake_b (s : State) : (s.wake).b = s.b := rfl
@[simp] theorem State.wake_c (s : State) : (s.wake).c = s.c := rfl
@[simp] theorem State.wake_d (s : State) : (s.wake).d = s.d := rfl
@[simp] theorem State.wake_e (s : State) : (s.wake).e = s.e := rfl
@[simp] theorem State.wake_h (s : State) : (s.wake).h = s.h := rfl
@[simp] theorem State.wake_l (s : State) : (s.wake).l = s.l := rfl
@[simp] theorem State.wake_f (s : State) : (s.wake).f = s.f := rfl
@[simp] theorem State.wake_sp (s : State) : (s.wake).sp = s.sp := rfl
@[simp] theorem State.wake_pc (s : State) : (s.wake).pc = s.pc := rfl
@[simp] theorem State.wake_ime (s : State) : (s.wake).ime = s.ime := rfl
@[simp] theorem State.wake_pendingEnable (s : State) : (s.wake).pendingEnable = s.pendingEnable := rfl
@[simp] theorem State.wake_lowPower (s : State) : (s.wake).lowPower = false := rfl
@[simp] theorem State.wake_haltBug (s : State) : (s.wake).haltBug = s.haltBug := rfl
@[simp] theorem State.wake_cycleDebt (s : State) : (s.wake).cycleDebt = s.cycleDebt := rfl
@[simp] theorem State.wake_fault (s : State) : (s.wake).fault = s.fault := rfl
@[simp] theorem State.wake_mem (s : State) : (s.wake).mem = s.mem := rfl
@[simp] theorem State.wake_regions (s : State) : (s.wake).regions = s.regions := rfl
@[simp] theorem State.wake_irq (s : State) : (s.wake).irq = s.irq := rfl
@[simp] theorem State.wake_inputs (s : State) : (s.wake).inputs = s.inputs := rfl
@[simp] theorem State.wake_answers (s : State) : (s.wake).answers = s.answers := rfl
@[simp] theorem State.wake_ack (s : State) : (s.wake).ack = s.ack := rfl
@[simp] theorem State.wake_bus (s : State) : (s.wake).bus = s.bus := rfl
@[simp] theorem State.wake_taken (s : State) : (s.wake).taken = s.taken := rfl
@[simp] theorem State.wake_cost (s : State) : (s.wake).cost = s.cost := rfl

/-! ### idle -/

@[simp] theorem State.idle_a (s : State) : (s.idle).a = s.a := rfl
@[simp] theorem State.idle_b (s : State) : (s.idle).b = s.b := rfl
@[simp] theorem State.idle_c (s : State) : (s.idle).c = s.c := rfl
@[simp] theorem State.idle_d (s : State) : (s.idle).d = s.d := rfl
@[simp] theorem State.idle_e (s : State) : (s.idle).e = s.e := rfl
@[simp] theorem State.idle_h (s : State) : (s.idle).h = s.h := rfl
@[simp] theorem State.idle_l (s : State) : (s.idle).l = s.l := rfl
@[simp] theorem State.idle_f (s : State) : (s.idle).f = s.f := rfl
@[simp] theorem State.idle_sp (s : State) : (s.idle).sp = s.sp := rfl
@[simp] theorem State.idle_pc (s : State) : (s.idle).pc = s.pc := rfl
@[simp] theorem State.idle_ime (s : State) : (s.idle).ime = s.ime := rfl
@[simp] theorem State.idle_pendingEnable (s : State) : (s.idle).pendingEnable = s.pendingEnable := rfl
@[simp] theorem State.idle_lowPower (s : State) : (s.idle).lowPower = s.lowPower := rfl
@[simp] theorem State.idle_haltBug (s : State) : (s.idle).haltBug = s.haltBug := rfl
@[simp] theorem State.idle_cycleDebt (s : State) : (s.idle).cycleDebt = s.cycleDebt := rfl
@[simp] theorem State.idle_fault (s : State) : (s.idle).fault = s.fault := rfl
@[simp] theorem State.idle_mem (s : State) : (s.idle).mem = s.mem := rfl
@[simp] theorem State.idle_regions (s : State) : (s.idle).regions = s.regions := rfl
@[simp] theorem State.idle_irq (s : State) : (s.idle).irq = s.irq := rfl
@[simp] theorem State.idle_inputs (s : State) : (s.idle).inputs = s.inputs := rfl
@[simp] theorem State.idle_answers (s : State) : (s.idle).answers = s.answers := rfl
@[simp] theorem State.idle_ack (s : State) : (s.idle).ack = s.ack := rfl
@[simp] theorem State.idle_bus (s : State) : (s.idle).bus = s.bus := rfl
@[simp] theorem State.idle_taken (s : State) : (s.idle).taken = s.taken := rfl
@[simp] theorem State.idle_cost (s : State) : (s.idle).cost = 1 := rfl

/-! ### beginStep -/

@[simp] theorem State.beginStep_a (s : State) : (s.beginStep).a = s.a := rfl
@[simp] theorem State.beginStep_b (s : State) : (s.beginStep).b = s.b := rfl
@[simp] theorem State.beginStep_c (s : State) : (s.beginStep).c = s.c := rfl
@[simp] theorem State.beginStep_d (s : State) : (s.beginStep).d = s.d := rfl
@[simp] theorem State.beginStep_e (s : State) : (s.beginStep).e = s.e := rfl
@[simp] theorem State.beginStep_h (s : State) : (s.beginStep).h = s.h := rfl
@[simp] theorem State.beginStep_l (s : State) : (s.beginStep).l = s.l := rfl
@[simp] theorem State.beginStep_f (s : State) : (s.beginStep).f = s.f := rfl
@[simp] theorem State.beginStep_sp (s : State) : (s.beginStep).sp = s.sp := rfl
@[simp] theorem State.beginStep_pc (s : State) : (s.beginStep).pc = s.pc := rfl
@[simp] theorem State.beginStep_ime (s : State) : (s.beginStep).ime = s.ime := rfl
@[simp] theorem State.beginStep_pendingEnable (s : State) : (s.beginStep).pendingEnable = s.pendingEnable := rfl
@[simp] theorem State.beginStep_lowPower (s : State) : (s.beginStep).lowPower = s.lowPower := rfl
@[simp] theorem State.beginStep_haltBug (s : State) : (s.beginStep).haltBug = s.haltBug := rfl
@[simp] theorem State.beginStep_cycleDebt (s : State) : (s.beginStep).cycleDebt = s.cycleDebt := rfl
@[simp] theorem State.beginStep_fault (s : State) : (s.beginStep).fault = s.fault := rfl
@[simp] theorem State.beginStep_mem (s : State) : (s.beginStep).mem = Memory.writeAll s.mem s.input.pokes := rfl
@[simp] theorem State.beginStep_regions (s : State) : (s.beginStep).regions = s.regions := rfl
@[simp] theorem State.beginStep_irq (s : State) : (s.beginStep).irq = s.input.irq := rfl
@[simp] theorem State.beginStep_inputs (s : State) : (s.beginStep).inputs = s.inputs.tail := rfl
@[simp] theorem State.beginStep_answers (s : State) : (s.beginStep).answers = s.input.answers := rfl
@[simp] theorem State.beginStep_ack (s : State) : (s.beginStep).ack = none := rfl
@[simp] theorem State.beginStep_bus (s : State) : (s.beginStep).bus = [] := rfl
@[simp] theorem State.beginStep_taken (s : State) : (s.beginStep).taken = true := rfl
@[simp] theorem State.beginStep_cost (s : State) : (s.beginStep).cost = 0 := rfl

/-! ### enterInterrupt -/

@[simp] theorem State.enterInterrupt_a (s : State) (k : Fin 5) : (s.enterInterrupt k).a = s.a := rfl
@[simp] theorem State.enterInterrupt_b (s : State) (k : Fin 5) : (s.enterInterrupt k).b = s.b := rfl
@[simp] theorem State.enterInterrupt_c (s : State) (k : Fin 5) : (s.enterInterrupt k).c = s.c := rfl
@[simp] theorem State.enterInterrupt_d (s : State) (k : Fin 5) : (s.enterInterrupt k).d = s.d := rfl
@[simp] theorem State.enterInterrupt_e (s : State) (k : Fin 5) : (s.enterInterrupt k).e = s.e := rfl
@[simp] theorem State.enterInterrupt_h (s : State) (k : Fin 5) : (s.enterInterrupt k).h = s.h := rfl
@[simp] theorem State.enterInterrupt_l (s : State) (k : Fin 5) : (s.enterInterrupt k).l = s.l := rfl
@[simp] theorem State.enterInterrupt_f (s : State) (k : Fin 5) : (s.enterInterrupt k).f = s.f := rfl
@[simp] theorem State.enterInterrupt_sp (s : State) (k : Fin 5) : (s.enterInterrupt k).sp = s.sp - 2 := rfl
@[simp] theorem State.enterInterrupt_pc (s : State) (k : Fin 5) : (s.enterInterrupt k).pc = vector k := rfl
@[simp] theorem State.enterInterrupt_ime (s : State) (k : Fin 5) : (s.enterInterrupt k).ime = false := rfl
@[simp] theorem State.enterInterrupt_pendingEnable (s : State) (k : Fin 5) : (s.enterInterrupt k).pendingEnable = false := rfl
@[simp] theorem State.enterInterrupt_lowPower (s : State) (k : Fin 5) : (s.enterInterrupt k).lowPower = s.lowPower := rfl
@[simp] theorem State.enterInterrupt_haltBug (s : State) (k : Fin 5) : (s.enterInterrupt k).haltBug = false := rfl
@[simp] theorem State.enterInterrupt_cycleDebt (s : State) (k : Fin 5) : (s.enterInterrupt k).cycleDebt = s.cycleDebt := rfl
@[simp] theorem State.enterInterrupt_fault (s : State) (k : Fin 5) : (s.enterInterrupt k).fault = s.fault := rfl
@[simp] theorem State.enterInterrupt_mem (s : State) (k : Fin 5) : (s.enterInterrupt k).mem = (s.store (s.sp - 1) (hi s.pc)).memAfter (s.sp - 2) (lo s.pc) := rfl
@[simp] theorem State.enterInterrupt_regions (s : State) (k : Fin 5) : (s.enterInterrupt k).regions = s.regions := rfl
@[simp] theorem State.enterInterrupt_irq (s : State) (k : Fin 5) : (s.enterInterrupt k).irq = s.irq := rfl
@[simp] theorem State.enterInterrupt_inputs (s : State) (k : Fin 5) : (s.enterInterrupt k).inputs = s.inputs := rfl
@[simp] theorem State.enterInterrupt_answers (s : State) (k : Fin 5) : (s.enterInterrupt k).answers = s.answers := rfl
@[simp] theorem State.enterInterrupt_ack (s : State) (k : Fin 5) : (s.enterInterrupt k).ack = some k := rfl
@[simp] theorem State.enterInterrupt_taken (s : State) (k : Fin 5) : (s.enterInterrupt k).taken = s.taken := rfl
@[simp] theorem State.enterInterrupt_cost (s : State) (k : Fin 5) : (s.enterInterrupt k).cost = entryCost := rfl

/-! ### promote -/

@[simp] theorem State.promote_a (s : State) (p0 : Bool) : (s.promote p0).a = s.a := by
  unfold State.promote; split <;> rfl
@[simp] theorem State.promote_b (s : State) (p0 : Bool) : (s.promote p0).b = s.b := by
  unfold State.promote; split <;> rfl
@[simp] theorem State.promote_c (s : State) (p0 : Bool) : (s.promote p0).c = s.c := by
  unfold State.promote; split <;> rfl
@[simp] theorem State.promote_d (s : State) (p0 : Bool) : (s.promote p0).d = s.d := by
  unfold State.promote; split <;> rfl
@[simp] theorem State.promote_e (s : State) (p0 : Bool) : (s.promote p0).e = s.e := by
  unfold State.promote; split <;> rfl
@[simp] theorem State.promote_h (s : State) (p0 : Bool) : (s.promote p0).h = s.h := by
  unfold State.promote; split <;> rfl
@[simp] theorem State.promote_l (s : State) (p0 : Bool) : (s.promote p0).l = s.l := by
  unfold State.promote; split <;> rfl
@[simp] theorem State.promote_f (s : State) (p0 : Bool) : (s.promote p0).f = s.f := by
  unfold State.promote; split <;> rfl
@[simp] theorem State.promote_sp (s : State) (p0 : Bool) : (s.promote p0).sp = s.sp := by
  unfold State.promote; split <;> rfl
@[simp] theorem State.promote_pc (s : State) (p0 : Bool) : (s.promote p0).pc = s.pc := by
  unfold State.promote; split <;> rfl
@[simp] theorem State.promote_lowPower (s : State) (p0 : Bool) : (s.promote p0).lowPower = s.lowPower := by
  unfold State.promote; split <;> rfl
@[simp] theorem State.promote_haltBug (s : State) (p0 : Bool) : (s.promote p0).haltBug = s.haltBug := by
  unfold State.promote; split <;> rfl
@[simp] theorem State.promote_cycleDebt (s : State) (p0 : Bool) : (s.promote p0).cycleDebt = s.cycleDebt := by
  unfold State.promote; split <;> rfl
@[simp] theorem State.promote_fault (s : State) (p0 : Bool) : (s.promote p0).fault = s.fault := by
  unfold State.promote; split <;> rfl
@[simp] theorem State.promote_mem (s : State) (p0 : Bool) : (s.promote p0).mem = s.mem := by
  unfold State.promote; split <;> rfl
@[simp] theorem State.promote_regions (s : State) (p0 : Bool) : (s.promote p0).regions = s.regions := by
  unfold State.promote; split <;> rfl
@[simp] theorem State.promote_irq (s : State) (p0 : Bool) : (s.promote p0).irq = s.irq := by
  unfold State.promote; split <;> rfl
@[simp] theorem State.promote_inputs (s : State) (p0 : Bool) : (s.promote p0).inputs = s.inputs := by
  unfold State.promote; split <;> rfl
@[simp] theorem State.promote_answers (s : State) (p0 : Bool) : (s.promote p0).answers = s.answers := by
  unfold State.promote; split <;> rfl
@[simp] theorem State.promote_ack (s : State) (p0 : Bool) : (s.promote p0).ack = s.ack := by
  unfold State.promote; split <;> rfl
@[simp] theorem State.promote_bus (s : State) (p0 : Bool) : (s.promote p0).bus = s.bus := by
  unfold State.promote; split <;> rfl
@[simp] theorem State.promote_taken (s : State) (p0 : Bool) : (s.promote p0).taken = s.taken := by
  unfold State.promote; split <;> rfl
@[simp] theorem State.promote_cost (s : State) (p0 : Bool) : (s.promote p0).cost = s.cost := by
  unfold State.promote; split <;> rfl

/-! ### noteFetch -/

@[simp] theorem State.noteFetch_a (s : State) : (s.noteFetch).a = s.a := by
  unfold State.noteFetch; split <;> rfl
@[simp] theorem State.noteFetch_b (s : State) : (s.noteFetch).b = s.b := by
  unfold State.noteFetch; split <;> rfl
@[simp] theorem State.noteFetch_c (s : State) : (s.noteFetch).c = s.c := by
  unfold State.noteFetch; split <;> rfl
@[simp] theorem State.noteFetch_d (s : State) : (s.noteFetch).d = s.d := by
  unfold State.noteFetch; split <;> rfl
@[simp] theorem State.noteFetch_e (s : State) : (s.noteFetch).e = s.e := by
  unfold State.noteFetch; split <;> rfl
@[simp] theorem State.noteFetch_h (s : State) : (s.noteFetch).h = s.h := by
  unfold State.noteFetch; split <;> rfl
@[simp] theorem State.noteFetch_l (s : State) : (s.noteFetch).l = s.l := by
  unfold State.noteFetch; split <;> rfl
@[simp] theorem State.noteFetch_f (s : State) : (s.noteFetch).f = s.f := by
  unfold State.noteFetch; split <;> rfl
@[simp] theorem State.noteFetch_sp (s : State) : (s.noteFetch).sp = s.sp := by
  unfold State.noteFetch; split <;> rfl
@[simp] theorem State.noteFetch_pc (s : State) : (s.noteFetch).pc = s.pc := by
  unfold State.noteFetch; split <;> rfl
@[simp] theorem State.noteFetch_ime (s : State) : (s.noteFetch).ime = s.ime := by
  unfold State.noteFetch; split <;> rfl
@[simp] theorem State.noteFetch_pendingEnable (s : State) : (s.noteFetch).pendingEnable = s.pendingEnable := by
  unfold State.noteFetch; split <;> rfl
@[simp] theorem State.noteFetch_lowPower (s : State) : (s.noteFetch).lowPower = s.lowPower := by
  unfold State.noteFetch; split <;> rfl
@[simp] theorem State.noteFetch_haltBug (s : State) : (s.noteFetch).haltBug = s.haltBug := by
  unfold State.noteFetch; split <;> rfl
@[simp] theorem State.noteFetch_cycleDebt (s : State) : (s.noteFetch).cycleDebt = s.cycleDebt := by
  unfold State.noteFetch; split <;> rfl
@[simp] theorem State.noteFetch_fault (s : State) : (s.noteFetch).fault = s.fault := by
  unfold State.noteFetch; split <;> rfl
@[simp] theorem State.noteFetch_mem (s : State) : (s.noteFetch).mem = s.mem := by
  unfold State.noteFetch; split <;> rfl
@[simp] theorem State.noteFetch_regions (s : State) : (s.noteFetch).regions = s.regions := by
  unfold State.noteFetch; split <;> rfl
@[simp] theorem State.noteFetch_irq (s : State) : (s.noteFetch).irq = s.irq := by
  unfold State.noteFetch; split <;> rfl
@[simp] theorem State.noteFetch_inputs (s : State) : (s.noteFetch).inputs = s.inputs := by
  unfold State.noteFetch; split <;> rfl
@[simp] theorem State.noteFetch_ack (s : State) : (s.noteFetch).ack = s.ack := by
  unfold State.noteFetch; split <;> rfl
@[simp] theorem State.noteFetch_taken (s : State) : (s.noteFetch).taken = s.taken := by
  unfold State.noteFetch; split <;> rfl
@[simp] theorem State.noteFetch_cost (s : State) : (s.noteFetch).cost = s.cost := by
  unfold State.noteFetch; split <;> rfl

end Sys2Proof.Machine
end

