-- ==== Sys2Proof/Laws/Exec.lean ====
section
/-! SUPPORT. One lemma per instruction form: what `exec` answers for it, in the model's named operations. Later
proofs cite these and unfold neither `exec` nor the single meanings. -/

namespace Sys2Proof.Machine

theorem exec_inc (o : Operand8) (s : State) : exec (.inc o) s = .next (s.inc o) := by
  cases o with | memHL => rfl | reg r => cases r <;> rfl

theorem exec_dec (o : Operand8) (s : State) : exec (.dec o) s = .next (s.dec o) := by
  cases o with | memHL => rfl | reg r => cases r <;> rfl

theorem exec_ldImm (o : Operand8) (n8 : Byte) (s : State) : exec (.ldImm o n8) s = .next (s.put o n8) := by
  cases o with | memHL => rfl | reg r => cases r <;> rfl

theorem exec_ldReg (r : Reg8) (o : Operand8) (s : State) : exec (.ldReg r o) s = .next (s.loadReg r o) := by
  cases r <;> (cases o with | memHL => rfl | reg q => cases q <;> rfl)

theorem exec_ldStore (r : Reg8) (s : State) : exec (.ldStore r) s = .next (s.storeReg r) := by
  cases r <;> rfl

theorem exec_alu (op : AluOp) (o : Operand8) (s : State) : exec (.alu op o) s = .next (s.alu op o) := by
  cases op <;> (cases o with | memHL => rfl | reg r => cases r <;> rfl)

theorem exec_aluImm (op : AluOp) (n8 : Byte) (s : State) : exec (.aluImm op n8) s = .next (s.aluWith op n8) := by
  cases op <;> rfl

theorem exec_ldPair (p : Pair) (n16 : Word) (s : State) : exec (.ldPair p n16) s = .next (s.setPair p n16) := by
  cases p <;> rfl

theorem exec_addHL (p : Pair) (s : State) : exec (.addHL p) s = .next (s.addHL p) := by
  cases p <;> rfl

theorem exec_incPair (p : Pair) (s : State) : exec (.incPair p) s = .next (s.incPair p) := by
  cases p <;> rfl

theorem exec_decPair (p : Pair) (s : State) : exec (.decPair p) s = .next (s.decPair p) := by
  cases p <;> rfl

theorem exec_push (p : StackPair) (s : State) : exec (.push p) s = .next (s.push16 (s.getStackPair p)) := by
  cases p <;> rfl

theorem exec_pop (p : StackPair) (s : State) : exec (.pop p) s = .next (s.popPair p) := by
  cases p <;> rfl

theorem exec_jrIf (cc : Cond) (e8 : Byte) (s : State) : exec (.jrIf cc e8) s = .next (s.when cc (fun t => t.jumpRel e8)) := by
  cases cc <;> rfl

theorem exec_jpIf (cc : Cond) (n16 : Word) (s : State) : exec (.jpIf cc n16) s = .next (s.when cc (fun t => t.jump n16)) := by
  cases cc <;> rfl

theorem exec_callIf (cc : Cond) (n16 : Word) (s : State) : exec (.callIf cc n16) s = .next (s.when cc (fun t => t.call n16)) := by
  cases cc <;> rfl

theorem exec_retIf (cc : Cond) (s : State) : exec (.retIf cc) s = .next (s.when cc State.returnToCaller) := by
  cases cc <;> rfl

theorem exec_rst (y : Fin 8) (s : State) : exec (.rst y) s = .next (s.restart y) := by
  match y with
  | 0 => rfl
  | 1 => rfl
  | 2 => rfl
  | 3 => rfl
  | 4 => rfl
  | 5 => rfl
  | 6 => rfl
  | 7 => rfl

theorem exec_rot (op : RotOp) (o : Operand8) (s : State) : exec (.rot op o) s = .next (s.rot op o) := by
  cases op <;> (cases o with | memHL => rfl | reg r => cases r <;> rfl)

theorem exec_bit (b : Fin 8) (o : Operand8) (s : State) : exec (.bit b o) s = .next (s.bit b o) := by
  match b with
  | 0 => cases o with | memHL => rfl | reg r => cases r <;> rfl
  | 1 => cases o with | memHL => rfl | reg r => cases r <;> rfl
  | 2 => cases o with | memHL => rfl | reg r => cases r <;> rfl
  | 3 => cases o with | memHL => rfl | reg r => cases r <;> rfl
  | 4 => cases o with | memHL => rfl | reg r => cases r <;> rfl
  | 5 => cases o with | memHL => rfl | reg r => cases r <;> rfl
  | 6 => cases o with | memHL => rfl | reg r => cases r <;> rfl
  | 7 => cases o with | memHL => rfl | reg r => cases r <;> rfl

theorem exec_res (b : Fin 8) (o : Operand8) (s : State) : exec (.res b o) s = .next (s.res b o) := by
  match b with
  | 0 => cases o with | memHL => rfl | reg r => cases r <;> rfl
  | 1 => cases o with | memHL => rfl | reg r => cases r <;> rfl
  | 2 => cases o with | memHL => rfl | reg r => cases r <;> rfl
  | 3 => cases o with | memHL => rfl | reg r => cases r <;> rfl
  | 4 => cases o with | memHL => rfl | reg r => cases r <;> rfl
  | 5 => cases o with | memHL => rfl | reg r => cases r <;> rfl
  | 6 => cases o with | memHL => rfl | reg r => cases r <;> rfl
  | 7 => cases o with | memHL => rfl | reg r => cases r <;> rfl

theorem exec_set (b : Fin 8) (o : Operand8) (s : State) : exec (.set b o) s = .next (s.set b o) := by
  match b with
  | 0 => cases o with | memHL => rfl | reg r => cases r <;> rfl
  | 1 => cases o with | memHL => rfl | reg r => cases r <;> rfl
  | 2 => cases o with | memHL => rfl | reg r => cases r <;> rfl
  | 3 => cases o with | memHL => rfl | reg r => cases r <;> rfl
  | 4 => cases o with | memHL => rfl | reg r => cases r <;> rfl
  | 5 => cases o with | memHL => rfl | reg r => cases r <;> rfl
  | 6 => cases o with | memHL => rfl | reg r => cases r <;> rfl
  | 7 => cases o with | memHL => rfl | reg r => cases r <;> rfl

end Sys2Proof.Machine
end

