-- ==== Sys2Proof/Laws/Forms.lean ====
section
/-! SUPPORT. The instruction set by form: to prove something of every instruction it is enough to prove it of each
form with its operands. Use it as `cases i using Instr.byForm`. -/

namespace Sys2Proof

theorem Instr.byForm {P : Instr → Prop}
    (inc : ∀ (o : Operand8), P (Instr.inc o))
    (dec : ∀ (o : Operand8), P (Instr.dec o))
    (ldImm : ∀ (o : Operand8) (n8 : Byte), P (Instr.ldImm o n8))
    (ldReg : ∀ (r : Reg8) (o : Operand8), P (Instr.ldReg r o))
    (ldStore : ∀ (r : Reg8), P (Instr.ldStore r))
    (alu : ∀ (op : AluOp) (o : Operand8), P (Instr.alu op o))
    (aluImm : ∀ (op : AluOp) (n8 : Byte), P (Instr.aluImm op n8))
    (ldPair : ∀ (p : Pair) (n16 : Word), P (Instr.ldPair p n16))
    (addHL : ∀ (p : Pair), P (Instr.addHL p))
    (incPair : ∀ (p : Pair), P (Instr.incPair p))
    (decPair : ∀ (p : Pair), P (Instr.decPair p))
    (push : ∀ (p : StackPair), P (Instr.push p))
    (pop : ∀ (p : StackPair), P (Instr.pop p))
    (jrIf : ∀ (cc : Cond) (e8 : Byte), P (Instr.jrIf cc e8))
    (jpIf : ∀ (cc : Cond) (n16 : Word), P (Instr.jpIf cc n16))
    (callIf : ∀ (cc : Cond) (n16 : Word), P (Instr.callIf cc n16))
    (retIf : ∀ (cc : Cond), P (Instr.retIf cc))
    (rst : ∀ (y : Fin 8), P (Instr.rst y))
    (rot : ∀ (op : RotOp) (o : Operand8), P (Instr.rot op o))
    (bit : ∀ (b : Fin 8) (o : Operand8), P (Instr.bit b o))
    (res : ∀ (b : Fin 8) (o : Operand8), P (Instr.res b o))
    (set : ∀ (b : Fin 8) (o : Operand8), P (Instr.set b o))
    (nop : P .nop)
    (ld_mBC_A : P .ld_mBC_A)
    (rlca : P .rlca)
    (ld_ma16_SP : ∀ (n16 : Word), P (.ld_ma16_SP n16))
    (ld_A_mBC : P .ld_A_mBC)
    (rrca : P .rrca)
    (stop : ∀ (pad : Byte), P (.stop pad))
    (ld_mDE_A : P .ld_mDE_A)
    (rla : P .rla)
    (jr_e8 : ∀ (e8 : Byte), P (.jr_e8 e8))
    (ld_A_mDE : P .ld_A_mDE)
    (rra : P .rra)
    (ld_mHLi_A : P .ld_mHLi_A)
    (daa : P .daa)
    (ld_A_mHLi : P .ld_A_mHLi)
    (cpl : P .cpl)
    (ld_mHLd_A : P .ld_mHLd_A)
    (scf : P .scf)
    (ld_A_mHLd : P .ld_A_mHLd)
    (ccf : P .ccf)
    (halt : P .halt)
    (jp_a16 : ∀ (n16 : Word), P (.jp_a16 n16))
    (ret : P .ret)
    (prefix_CB : ∀ (op : Byte), P (.prefix_CB op))
    (call_a16 : ∀ (n16 : Word), P (.call_a16 n16))
    (illegal_D3 : P .illegal_D3)
    (reti : P .reti)
    (illegal_DB : P .illegal_DB)
    (illegal_DD : P .illegal_DD)
    (ldh_ma8_A : ∀ (a8 : Byte), P (.ldh_ma8_A a8))
    (ldh_mC_A : P .ldh_mC_A)
    (illegal_E3 : P .illegal_E3)
    (illegal_E4 : P .illegal_E4)
    (add_SP_e8 : ∀ (e8 : Byte), P (.add_SP_e8 e8))
    (jp_HL : P .jp_HL)
    (ld_ma16_A : ∀ (n16 : Word), P (.ld_ma16_A n16))
    (illegal_EB : P .illegal_EB)
    (illegal_EC : P .illegal_EC)
    (illegal_ED : P .illegal_ED)
    (ldh_A_ma8 : ∀ (a8 : Byte), P (.ldh_A_ma8 a8))
    (ldh_A_mC : P .ldh_A_mC)
    (di : P .di)
    (illegal_F4 : P .illegal_F4)
    (ld_HL_SPe8 : ∀ (e8 : Byte), P (.ld_HL_SPe8 e8))
    (ld_SP_HL : P .ld_SP_HL)
    (ld_A_ma16 : ∀ (n16 : Word), P (.ld_A_ma16 n16))
    (ei : P .ei)
    (illegal_FC : P .illegal_FC)
    (illegal_FD : P .illegal_FD)
    (i : Instr) : P i :=
  match i with
  | .nop => nop
  | .ld_BC_n16 n16 => ldPair .bc n16
  | .ld_mBC_A => ld_mBC_A
  | .inc_BC => incPair .bc
  | .inc_B => inc (.reg .b)
  | .dec_B => dec (.reg .b)
  | .ld_B_n8 n8 => ldImm (.reg .b) n8
  | .rlca => rlca
  | .ld_ma16_SP n16 => ld_ma16_SP n16
  | .add_HL_BC => addHL .bc
  | .ld_A_mBC => ld_A_mBC
  | .dec_BC => decPair .bc
  | .inc_C => inc (.reg .c)
  | .dec_C => dec (.reg .c)
  | .ld_C_n8 n8 => ldImm (.reg .c) n8
  | .rrca => rrca
  | .stop pad => stop pad
  | .ld_DE_n16 n16 => ldPair .de n16
  | .ld_mDE_A => ld_mDE_A
  | .inc_DE => incPair .de
  | .inc_D => inc (.reg .d)
  | .dec_D => dec (.reg .d)
  | .ld_D_n8 n8 => ldImm (.reg .d) n8
  | .rla => rla
  | .jr_e8 e8 => jr_e8 e8
  | .add_HL_DE => addHL .de
  | .ld_A_mDE => ld_A_mDE
  | .dec_DE => decPair .de
  | .inc_E => inc (.reg .e)
  | .dec_E => dec (.reg .e)
  | .ld_E_n8 n8 => ldImm (.reg .e) n8
  | .rra => rra
  | .jr_NZ_e8 e8 => jrIf .nz e8
  | .ld_HL_n16 n16 => ldPair .hl n16
  | .ld_mHLi_A => ld_mHLi_A
  | .inc_HL => incPair .hl
  | .inc_H => inc (.reg .h)
  | .dec_H => dec (.reg .h)
  | .ld_H_n8 n8 => ldImm (.reg .h) n8
  | .daa => daa
  | .jr_Z_e8 e8 => jrIf .z e8
  | .add_HL_HL => addHL .hl
  | .ld_A_mHLi => ld_A_mHLi
  | .dec_HL => decPair .hl
  | .inc_L => inc (.reg .l)
  | .dec_L => dec (.reg .l)
  | .ld_L_n8 n8 => ldImm (.reg .l) n8
  | .cpl => cpl
  | .jr_NC_e8 e8 => jrIf .nc e8
  | .ld_SP_n16 n16 => ldPair .sp n16
  | .ld_mHLd_A => ld_mHLd_A
  | .inc_SP => incPair .sp
  | .inc_mHL => inc .memHL
  | .dec_mHL => dec .memHL
  | .ld_mHL_n8 n8 => ldImm .memHL n8
  | .scf => scf
  | .jr_C_e8 e8 => jrIf .c e8
  | .add_HL_SP => addHL .sp
  | .ld_A_mHLd => ld_A_mHLd
  | .dec_SP => decPair .sp
  | .inc_A => inc (.reg .a)
  | .dec_A => dec (.reg .a)
  | .ld_A_n8 n8 => ldImm (.reg .a) n8
  | .ccf => ccf
  | .ld_B_B => ldReg .b (.reg .b)
  | .ld_B_C => ldReg .b (.reg .c)
  | .ld_B_D => ldReg .b (.reg .d)
  | .ld_B_E => ldReg .b (.reg .e)
  | .ld_B_H => ldReg .b (.reg .h)
  | .ld_B_L => ldReg .b (.reg .l)
  | .ld_B_mHL => ldReg .b .memHL
  | .ld_B_A => ldReg .b (.reg .a)
  | .ld_C_B => ldReg .c (.reg .b)
  | .ld_C_C => ldReg .c (.reg .c)
  | .ld_C_D => ldReg .c (.reg .d)
  | .ld_C_E => ldReg .c (.reg .e)
  | .ld_C_H => ldReg .c (.reg .h)
  | .ld_C_L => ldReg .c (.reg .l)
  | .ld_C_mHL => ldReg .c .memHL
  | .ld_C_A => ldReg .c (.reg .a)
  | .ld_D_B => ldReg .d (.reg .b)
  | .ld_D_C => ldReg .d (.reg .c)
  | .ld_D_D => ldReg .d (.reg .d)
  | .ld_D_E => ldReg .d (.reg .e)
  | .ld_D_H => ldReg .d (.reg .h)
  | .ld_D_L => ldReg .d (.reg .l)
  | .ld_D_mHL => ldReg .d .memHL
  | .ld_D_A => ldReg .d (.reg .a)
  | .ld_E_B => ldReg .e (.reg .b)
  | .ld_E_C => ldReg .e (.reg .c)
  | .ld_E_D => ldReg .e (.reg .d)
  | .ld_E_E => ldReg .e (.reg .e)
  | .ld_E_H => ldReg .e (.reg .h)
  | .ld_E_L => ldReg .e (.reg .l)
  | .ld_E_mHL => ldReg .e .memHL
  | .ld_E_A => ldReg .e (.reg .a)
  | .ld_H_B => ldReg .h (.reg .b)
  | .ld_H_C => ldReg .h (.reg .c)
  | .ld_H_D => ldReg .h (.reg .d)
  | .ld_H_E => ldReg .h (.reg .e)
  | .ld_H_H => ldReg .h (.reg .h)
  | .ld_H_L => ldReg .h (.reg .l)
  | .ld_H_mHL => ldReg .h .memHL
  | .ld_H_A => ldReg .h (.reg .a)
  | .ld_L_B => ldReg .l (.reg .b)
  | .ld_L_C => ldReg .l (.reg .c)
  | .ld_L_D => ldReg .l (.reg .d)
  | .ld_L_E => ldReg .l (.reg .e)
  | .ld_L_H => ldReg .l (.reg .h)
  | .ld_L_L => ldReg .l (.reg .l)
  | .ld_L_mHL => ldReg .l .memHL
  | .ld_L_A => ldReg .l (.reg .a)
  | .ld_mHL_B => ldStore .b
  | .ld_mHL_C => ldStore .c
  | .ld_mHL_D => ldStore .d
  | .ld_mHL_E => ldStore .e
  | .ld_mHL_H => ldStore .h
  | .ld_mHL_L => ldStore .l
  | .halt => halt
  | .ld_mHL_A => ldStore .a
  | .ld_A_B => ldReg .a (.reg .b)
  | .ld_A_C => ldReg .a (.reg .c)
  | .ld_A_D => ldReg .a (.reg .d)
  | .ld_A_E => ldReg .a (.reg .e)
  | .ld_A_H => ldReg .a (.reg .h)
  | .ld_A_L => ldReg .a (.reg .l)
  | .ld_A_mHL => ldReg .a .memHL
  | .ld_A_A => ldReg .a (.reg .a)
  | .add_A_B => alu .add (.reg .b)
  | .add_A_C => alu .add (.reg .c)
  | .add_A_D => alu .add (.reg .d)
  | .add_A_E => alu .add (.reg .e)
  | .add_A_H => alu .add (.reg .h)
  | .add_A_L => alu .add (.reg .l)
  | .add_A_mHL => alu .add .memHL
  | .add_A_A => alu .add (.reg .a)
  | .adc_A_B => alu .adc (.reg .b)
  | .adc_A_C => alu .adc (.reg .c)
  | .adc_A_D => alu .adc (.reg .d)
  | .adc_A_E => alu .adc (.reg .e)
  | .adc_A_H => alu .adc (.reg .h)
  | .adc_A_L => alu .adc (.reg .l)
  | .adc_A_mHL => alu .adc .memHL
  | .adc_A_A => alu .adc (.reg .a)
  | .sub_A_B => alu .sub (.reg .b)
  | .sub_A_C => alu .sub (.reg .c)
  | .sub_A_D => alu .sub (.reg .d)
  | .sub_A_E => alu .sub (.reg .e)
  | .sub_A_H => alu .sub (.reg .h)
  | .sub_A_L => alu .sub (.reg .l)
  | .sub_A_mHL => alu .sub .memHL
  | .sub_A_A => alu .sub (.reg .a)
  | .sbc_A_B => alu .sbc (.reg .b)
  | .sbc_A_C => alu .sbc (.reg .c)
  | .sbc_A_D => alu .sbc (.reg .d)
  | .sbc_A_E => alu .sbc (.reg .e)
  | .sbc_A_H => alu .sbc (.reg .h)
  | .sbc_A_L => alu .sbc (.reg .l)
  | .sbc_A_mHL => alu .sbc .memHL
  | .sbc_A_A => alu .sbc (.reg .a)
  | .and_A_B => alu .and (.reg .b)
  | .and_A_C => alu .and (.reg .c)
  | .and_A_D => alu .and (.reg .d)
  | .and_A_E => alu .and (.reg .e)
  | .and_A_H => alu .and (.reg .h)
  | .and_A_L => alu .and (.reg .l)
  | .and_A_mHL => alu .and .memHL
  | .and_A_A => alu .and (.reg .a)
  | .xor_A_B => alu .xor (.reg .b)
  | .xor_A_C => alu .xor (.reg .c)
  | .xor_A_D => alu .xor (.reg .d)
  | .xor_A_E => alu .xor (.reg .e)
  | .xor_A_H => alu .xor (.reg .h)
  | .xor_A_L => alu .xor (.reg .l)
  | .xor_A_mHL => alu .xor .memHL
  | .xor_A_A => alu .xor (.reg .a)
  | .or_A_B => alu .or (.reg .b)
  | .or_A_C => alu .or (.reg .c)
  | .or_A_D => alu .or (.reg .d)
  | .or_A_E => alu .or (.reg .e)
  | .or_A_H => alu .or (.reg .h)
  | .or_A_L => alu .or (.reg .l)
  | .or_A_mHL => alu .or .memHL
  | .or_A_A => alu .or (.reg .a)
  | .cp_A_B => alu .cp (.reg .b)
  | .cp_A_C => alu .cp (.reg .c)
  | .cp_A_D => alu .cp (.reg .d)
  | .cp_A_E => alu .cp (.reg .e)
  | .cp_A_H => alu .cp (.reg .h)
  | .cp_A_L => alu .cp (.reg .l)
  | .cp_A_mHL => alu .cp .memHL
  | .cp_A_A => alu .cp (.reg .a)
  | .ret_NZ => retIf .nz
  | .pop_BC => pop .bc
  | .jp_NZ_a16 n16 => jpIf .nz n16
  | .jp_a16 n16 => jp_a16 n16
  | .call_NZ_a16 n16 => callIf .nz n16
  | .push_BC => push .bc
  | .add_A_n8 n8 => aluImm .add n8
  | .rst_00 => rst 0
  | .ret_Z => retIf .z
  | .ret => ret
  | .jp_Z_a16 n16 => jpIf .z n16
  | .prefix_CB op => prefix_CB op
  | .call_Z_a16 n16 => callIf .z n16
  | .call_a16 n16 => call_a16 n16
  | .adc_A_n8 n8 => aluImm .adc n8
  | .rst_08 => rst 1
  | .ret_NC => retIf .nc
  | .pop_DE => pop .de
  | .jp_NC_a16 n16 => jpIf .nc n16
  | .illegal_D3 => illegal_D3
  | .call_NC_a16 n16 => callIf .nc n16
  | .push_DE => push .de
  | .sub_A_n8 n8 => aluImm .sub n8
  | .rst_10 => rst 2
  | .ret_C => retIf .c
  | .reti => reti
  | .jp_C_a16 n16 => jpIf .c n16
  | .illegal_DB => illegal_DB
  | .call_C_a16 n16 => callIf .c n16
  | .illegal_DD => illegal_DD
  | .sbc_A_n8 n8 => aluImm .sbc n8
  | .rst_18 => rst 3
  | .ldh_ma8_A a8 => ldh_ma8_A a8
  | .pop_HL => pop .hl
  | .ldh_mC_A => ldh_mC_A
  | .illegal_E3 => illegal_E3
  | .illegal_E4 => illegal_E4
  | .push_HL => push .hl
  | .and_A_n8 n8 => aluImm .and n8
  | .rst_20 => rst 4
  | .add_SP_e8 e8 => add_SP_e8 e8
  | .jp_HL => jp_HL
  | .ld_ma16_A n16 => ld_ma16_A n16
  | .illegal_EB => illegal_EB
  | .illegal_EC => illegal_EC
  | .illegal_ED => illegal_ED
  | .xor_A_n8 n8 => aluImm .xor n8
  | .rst_28 => rst 5
  | .ldh_A_ma8 a8 => ldh_A_ma8 a8
  | .pop_AF => pop .af
  | .ldh_A_mC => ldh_A_mC
  | .di => di
  | .illegal_F4 => illegal_F4
  | .push_AF => push .af
  | .or_A_n8 n8 => aluImm .or n8
  | .rst_30 => rst 6
  | .ld_HL_SPe8 e8 => ld_HL_SPe8 e8
  | .ld_SP_HL => ld_SP_HL
  | .ld_A_ma16 n16 => ld_A_ma16 n16
  | .ei => ei
  | .illegal_FC => illegal_FC
  | .illegal_FD => illegal_FD
  | .cp_A_n8 n8 => aluImm .cp n8
  | .rst_38 => rst 7
  | .rlc_B => rot .rlc (.reg .b)
  | .rlc_C => rot .rlc (.reg .c)
  | .rlc_D => rot .rlc (.reg .d)
  | .rlc_E => rot .rlc (.reg .e)
  | .rlc_H => rot .rlc (.reg .h)
  | .rlc_L => rot .rlc (.reg .l)
  | .rlc_mHL => rot .rlc .memHL
  | .rlc_A => rot .rlc (.reg .a)
  | .rrc_B => rot .rrc (.reg .b)
  | .rrc_C => rot .rrc (.reg .c)
  | .rrc_D => rot .rrc (.reg .d)
  | .rrc_E => rot .rrc (.reg .e)
  | .rrc_H => rot .rrc (.reg .h)
  | .rrc_L => rot .rrc (.reg .l)
  | .rrc_mHL => rot .rrc .memHL
  | .rrc_A => rot .rrc (.reg .a)
  | .rl_B => rot .rl (.reg .b)
  | .rl_C => rot .rl (.reg .c)
  | .rl_D => rot .rl (.reg .d)
  | .rl_E => rot .rl (.reg .e)
  | .rl_H => rot .rl (.reg .h)
  | .rl_L => rot .rl (.reg .l)
  | .rl_mHL => rot .rl .memHL
  | .rl_A => rot .rl (.reg .a)
  | .rr_B => rot .rr (.reg .b)
  | .rr_C => rot .rr (.reg .c)
  | .rr_D => rot .rr (.reg .d)
  | .rr_E => rot .rr (.reg .e)
  | .rr_H => rot .rr (.reg .h)
  | .rr_L => rot .rr (.reg .l)
  | .rr_mHL => rot .rr .memHL
  | .rr_A => rot .rr (.reg .a)
  | .sla_B => rot .sla (.reg .b)
  | .sla_C => rot .sla (.reg .c)
  | .sla_D => rot .sla (.reg .d)
  | .sla_E => rot .sla (.reg .e)
  | .sla_H => rot .sla (.reg .h)
  | .sla_L => rot .sla (.reg .l)
  | .sla_mHL => rot .sla .memHL
  | .sla_A => rot .sla (.reg .a)
  | .sra_B => rot .sra (.reg .b)
  | .sra_C => rot .sra (.reg .c)
  | .sra_D => rot .sra (.reg .d)
  | .sra_E => rot .sra (.reg .e)
  | .sra_H => rot .sra (.reg .h)
  | .sra_L => rot .sra (.reg .l)
  | .sra_mHL => rot .sra .memHL
  | .sra_A => rot .sra (.reg .a)
  | .swap_B => rot .swap (.reg .b)
  | .swap_C => rot .swap (.reg .c)
  | .swap_D => rot .swap (.reg .d)
  | .swap_E => rot .swap (.reg .e)
  | .swap_H => rot .swap (.reg .h)
  | .swap_L => rot .swap (.reg .l)
  | .swap_mHL => rot .swap .memHL
  | .swap_A => rot .swap (.reg .a)
  | .srl_B => rot .srl (.reg .b)
  | .srl_C => rot .srl (.reg .c)
  | .srl_D => rot .srl (.reg .d)
  | .srl_E => rot .srl (.reg .e)
  | .srl_H => rot .srl (.reg .h)
  | .srl_L => rot .srl (.reg .l)
  | .srl_mHL => rot .srl .memHL
  | .srl_A => rot .srl (.reg .a)
  | .bit_0_B => bit 0 (.reg .b)
  | .bit_0_C => bit 0 (.reg .c)
  | .bit_0_D => bit 0 (.reg .d)
  | .bit_0_E => bit 0 (.reg .e)
  | .bit_0_H => bit 0 (.reg .h)
  | .bit_0_L => bit 0 (.reg .l)
  | .bit_0_mHL => bit 0 .memHL
  | .bit_0_A => bit 0 (.reg .a)
  | .bit_1_B => bit 1 (.reg .b)
  | .bit_1_C => bit 1 (.reg .c)
  | .bit_1_D => bit 1 (.reg .d)
  | .bit_1_E => bit 1 (.reg .e)
  | .bit_1_H => bit 1 (.reg .h)
  | .bit_1_L => bit 1 (.reg .l)
  | .bit_1_mHL => bit 1 .memHL
  | .bit_1_A => bit 1 (.reg .a)
  | .bit_2_B => bit 2 (.reg .b)
  | .bit_2_C => bit 2 (.reg .c)
  | .bit_2_D => bit 2 (.reg .d)
  | .bit_2_E => bit 2 (.reg .e)
  | .bit_2_H => bit 2 (.reg .h)
  | .bit_2_L => bit 2 (.reg .l)
  | .bit_2_mHL => bit 2 .memHL
  | .bit_2_A => bit 2 (.reg .a)
  | .bit_3_B => bit 3 (.reg .b)
  | .bit_3_C => bit 3 (.reg .c)
  | .bit_3_D => bit 3 (.reg .d)
  | .bit_3_E => bit 3 (.reg .e)
  | .bit_3_H => bit 3 (.reg .h)
  | .bit_3_L => bit 3 (.reg .l)
  | .bit_3_mHL => bit 3 .memHL
  | .bit_3_A => bit 3 (.reg .a)
  | .bit_4_B => bit 4 (.reg .b)
  | .bit_4_C => bit 4 (.reg .c)
  | .bit_4_D => bit 4 (.reg .d)
  | .bit_4_E => bit 4 (.reg .e)
  | .bit_4_H => bit 4 (.reg .h)
  | .bit_4_L => bit 4 (.reg .l)
  | .bit_4_mHL => bit 4 .memHL
  | .bit_4_A => bit 4 (.reg .a)
  | .bit_5_B => bit 5 (.reg .b)
  | .bit_5_C => bit 5 (.reg .c)
  | .bit_5_D => bit 5 (.reg .d)
  | .bit_5_E => bit 5 (.reg .e)
  | .bit_5_H => bit 5 (.reg .h)
  | .bit_5_L => bit 5 (.reg .l)
  | .bit_5_mHL => bit 5 .memHL
  | .bit_5_A => bit 5 (.reg .a)
  | .bit_6_B => bit 6 (.reg .b)
  | .bit_6_C => bit 6 (.reg .c)
  | .bit_6_D => bit 6 (.reg .d)
  | .bit_6_E => bit 6 (.reg .e)
  | .bit_6_H => bit 6 (.reg .h)
  | .bit_6_L => bit 6 (.reg .l)
  | .bit_6_mHL => bit 6 .memHL
  | .bit_6_A => bit 6 (.reg .a)
  | .bit_7_B => bit 7 (.reg .b)
  | .bit_7_C => bit 7 (.reg .c)
  | .bit_7_D => bit 7 (.reg .d)
  | .bit_7_E => bit 7 (.reg .e)
  | .bit_7_H => bit 7 (.reg .h)
  | .bit_7_L => bit 7 (.reg .l)
  | .bit_7_mHL => bit 7 .memHL
  | .bit_7_A => bit 7 (.reg .a)
  | .res_0_B => res 0 (.reg .b)
  | .res_0_C => res 0 (.reg .c)
  | .res_0_D => res 0 (.reg .d)
  | .res_0_E => res 0 (.reg .e)
  | .res_0_H => res 0 (.reg .h)
  | .res_0_L => res 0 (.reg .l)
  | .res_0_mHL => res 0 .memHL
  | .res_0_A => res 0 (.reg .a)
  | .res_1_B => res 1 (.reg .b)
  | .res_1_C => res 1 (.reg .c)
  | .res_1_D => res 1 (.reg .d)
  | .res_1_E => res 1 (.reg .e)
  | .res_1_H => res 1 (.reg .h)
  | .res_1_L => res 1 (.reg .l)
  | .res_1_mHL => res 1 .memHL
  | .res_1_A => res 1 (.reg .a)
  | .res_2_B => res 2 (.reg .b)
  | .res_2_C => res 2 (.reg .c)
  | .res_2_D => res 2 (.reg .d)
  | .res_2_E => res 2 (.reg .e)
  | .res_2_H => res 2 (.reg .h)
  | .res_2_L => res 2 (.reg .l)
  | .res_2_mHL => res 2 .memHL
  | .res_2_A => res 2 (.reg .a)
  | .res_3_B => res 3 (.reg .b)
  | .res_3_C => res 3 (.reg .c)
  | .res_3_D => res 3 (.reg .d)
  | .res_3_E => res 3 (.reg .e)
  | .res_3_H => res 3 (.reg .h)
  | .res_3_L => res 3 (.reg .l)
  | .res_3_mHL => res 3 .memHL
  | .res_3_A => res 3 (.reg .a)
  | .res_4_B => res 4 (.reg .b)
  | .res_4_C => res 4 (.reg .c)
  | .res_4_D => res 4 (.reg .d)
  | .res_4_E => res 4 (.reg .e)
  | .res_4_H => res 4 (.reg .h)
  | .res_4_L => res 4 (.reg .l)
  | .res_4_mHL => res 4 .memHL
  | .res_4_A => res 4 (.reg .a)
  | .res_5_B => res 5 (.reg .b)
  | .res_5_C => res 5 (.reg .c)
  | .res_5_D => res 5 (.reg .d)
  | .res_5_E => res 5 (.reg .e)
  | .res_5_H => res 5 (.reg .h)
  | .res_5_L => res 5 (.reg .l)
  | .res_5_mHL => res 5 .memHL
  | .res_5_A => res 5 (.reg .a)
  | .res_6_B => res 6 (.reg .b)
  | .res_6_C => res 6 (.reg .c)
  | .res_6_D => res 6 (.reg .d)
  | .res_6_E => res 6 (.reg .e)
  | .res_6_H => res 6 (.reg .h)
  | .res_6_L => res 6 (.reg .l)
  | .res_6_mHL => res 6 .memHL
  | .res_6_A => res 6 (.reg .a)
  | .res_7_B => res 7 (.reg .b)
  | .res_7_C => res 7 (.reg .c)
  | .res_7_D => res 7 (.reg .d)
  | .res_7_E => res 7 (.reg .e)
  | .res_7_H => res 7 (.reg .h)
  | .res_7_L => res 7 (.reg .l)
  | .res_7_mHL => res 7 .memHL
  | .res_7_A => res 7 (.reg .a)
  | .set_0_B => set 0 (.reg .b)
  | .set_0_C => set 0 (.reg .c)
  | .set_0_D => set 0 (.reg .d)
  | .set_0_E => set 0 (.reg .e)
  | .set_0_H => set 0 (.reg .h)
  | .set_0_L => set 0 (.reg .l)
  | .set_0_mHL => set 0 .memHL
  | .set_0_A => set 0 (.reg .a)
  | .set_1_B => set 1 (.reg .b)
  | .set_1_C => set 1 (.reg .c)
  | .set_1_D => set 1 (.reg .d)
  | .set_1_E => set 1 (.reg .e)
  | .set_1_H => set 1 (.reg .h)
  | .set_1_L => set 1 (.reg .l)
  | .set_1_mHL => set 1 .memHL
  | .set_1_A => set 1 (.reg .a)
  | .set_2_B => set 2 (.reg .b)
  | .set_2_C => set 2 (.reg .c)
  | .set_2_D => set 2 (.reg .d)
  | .set_2_E => set 2 (.reg .e)
  | .set_2_H => set 2 (.reg .h)
  | .set_2_L => set 2 (.reg .l)
  | .set_2_mHL => set 2 .memHL
  | .set_2_A => set 2 (.reg .a)
  | .set_3_B => set 3 (.reg .b)
  | .set_3_C => set 3 (.reg .c)
  | .set_3_D => set 3 (.reg .d)
  | .set_3_E => set 3 (.reg .e)
  | .set_3_H => set 3 (.reg .h)
  | .set_3_L => set 3 (.reg .l)
  | .set_3_mHL => set 3 .memHL
  | .set_3_A => set 3 (.reg .a)
  | .set_4_B => set 4 (.reg .b)
  | .set_4_C => set 4 (.reg .c)
  | .set_4_D => set 4 (.reg .d)
  | .set_4_E => set 4 (.reg .e)
  | .set_4_H => set 4 (.reg .h)
  | .set_4_L => set 4 (.reg .l)
  | .set_4_mHL => set 4 .memHL
  | .set_4_A => set 4 (.reg .a)
  | .set_5_B => set 5 (.reg .b)
  | .set_5_C => set 5 (.reg .c)
  | .set_5_D => set 5 (.reg .d)
  | .set_5_E => set 5 (.reg .e)
  | .set_5_H => set 5 (.reg .h)
  | .set_5_L => set 5 (.reg .l)
  | .set_5_mHL => set 5 .memHL
  | .set_5_A => set 5 (.reg .a)
  | .set_6_B => set 6 (.reg .b)
  | .set_6_C => set 6 (.reg .c)
  | .set_6_D => set 6 (.reg .d)
  | .set_6_E => set 6 (.reg .e)
  | .set_6_H => set 6 (.reg .h)
  | .set_6_L => set 6 (.reg .l)
  | .set_6_mHL => set 6 .memHL
  | .set_6_A => set 6 (.reg .a)
  | .set_7_B => set 7 (.reg .b)
  | .set_7_C => set 7 (.reg .c)
  | .set_7_D => set 7 (.reg .d)
  | .set_7_E => set 7 (.reg .e)
  | .set_7_H => set 7 (.reg .h)
  | .set_7_L => set 7 (.reg .l)
  | .set_7_mHL => set 7 .memHL
  | .set_7_A => set 7 (.reg .a)

end Sys2Proof
end

