-- ==== Sys2Proof/Laws/Memory.lean ====
section
/-! SUPPORT. Laws of memory: reading after writing, the canonical form, what each kind of address makes of a read
and a write, and what each bus operation does to the byte held at every address. -/

namespace Sys2Proof.Machine

/-! ### The canonical form -/

theorem Memory.wfFrom_nil (low : Nat) : Memory.wfFrom low [] = true := rfl

theorem Memory.wfFrom_cons {low k : Nat} {v : Byte} {m : List Host.Cell} :
    Memory.wfFrom low ((k, v) :: m) = true ↔
      low ≤ k ∧ k < Config.addressSpace ∧ v ≠ Memory.blank ∧ Memory.wfFrom (k + 1) m = true := by
  simp [Memory.wfFrom, and_assoc]

theorem Memory.wfFrom_mono {m : List Host.Cell} {low low' : Nat} (h : low ≤ low')
    (wf : Memory.wfFrom low' m = true) : Memory.wfFrom low m = true := by
  cases m with
  | nil => rfl
  | cons e m =>
    obtain ⟨h1, h2, h3, h4⟩ := Memory.wfFrom_cons.mp wf
    exact Memory.wfFrom_cons.mpr ⟨by omega, h2, h3, h4⟩

/-- Below its first address a canonical memory is blank. -/
theorem Memory.read_below {m : List Host.Cell} {low a : Nat} (wf : Memory.wfFrom low m = true) (h : a < low) :
    Memory.read m a = Memory.blank := by
  induction m generalizing low with
  | nil => rfl
  | cons e m ih =>
    obtain ⟨h1, -, -, h4⟩ := Memory.wfFrom_cons.mp wf
    have hne : a ≠ e.1 := by omega
    simp only [Memory.read, hne, if_false]
    exact ih h4 (by omega)

theorem Memory.wfFrom_write {m : List Host.Cell} {low a : Nat} (v : Byte) (wf : Memory.wfFrom low m = true)
    (hl : low ≤ a) (ha : a < Config.addressSpace) : Memory.wfFrom low (Memory.write m a v) = true := by
  induction m generalizing low with
  | nil =>
    simp only [Memory.write]
    split
    · rfl
    · exact Memory.wfFrom_cons.mpr ⟨hl, ha, ‹_›, rfl⟩
  | cons e m ih =>
    obtain ⟨h1, h2, h3, h4⟩ := Memory.wfFrom_cons.mp wf
    simp only [Memory.write]
    split
    · split
      · exact wf
      · exact Memory.wfFrom_cons.mpr ⟨hl, ha, ‹_›, Memory.wfFrom_cons.mpr ⟨by omega, h2, h3, h4⟩⟩
    · split
      · split
        · exact Memory.wfFrom_mono (by omega) h4
        · exact Memory.wfFrom_cons.mpr ⟨hl, ha, ‹_›, Memory.wfFrom_mono (by omega) h4⟩
      · exact Memory.wfFrom_cons.mpr ⟨h1, h2, h3, ih h4 (by omega)⟩

/-- A write keeps the canonical form. -/
theorem Memory.wf_write {m : List Host.Cell} (a : Word) (v : Byte) (wf : Memory.wf m = true) :
    Memory.wf (Memory.write m a.toNat v) = true :=
  Memory.wfFrom_write v wf (Nat.zero_le _) (by simpa [Config.addressSpace] using a.isLt)

/-- The environment's changes keep the canonical form. -/
theorem Memory.wf_writeAll {m : List Host.Cell} (ps : List (Word × Byte)) (wf : Memory.wf m = true) :
    Memory.wf (Memory.writeAll m ps) = true := by
  induction ps generalizing m with
  | nil => exact wf
  | cons p ps ih => exact ih (Memory.wf_write p.1 p.2 wf)

/-! ### Reading after writing -/

/-- A write leaves the byte at every other address alone. -/
theorem Memory.read_write_of_ne (m : List Host.Cell) {a b : Nat} (v : Byte) (h : b ≠ a) :
    Memory.read (Memory.write m a v) b = Memory.read m b := by
  induction m with
  | nil =>
    simp only [Memory.write]
    split
    · rfl
    · simp [Memory.read, h]
  | cons e m ih =>
    simp only [Memory.write]
    split
    · split
      · rfl
      · simp [Memory.read, h]
    · split
      · rename_i he
        have hb : b ≠ e.1 := he ▸ h
        split <;> simp [Memory.read, h, hb]
      · simp only [Memory.read, ih]

theorem Memory.read_write_self_from {m : List Host.Cell} {low a : Nat} (v : Byte)
    (wf : Memory.wfFrom low m = true) : Memory.read (Memory.write m a v) a = v := by
  induction m generalizing low with
  | nil =>
    simp only [Memory.write]
    split
    · exact Eq.symm ‹_›
    · simp [Memory.read]
  | cons e m ih =>
    obtain ⟨h1, h2, h3, h4⟩ := Memory.wfFrom_cons.mp wf
    simp only [Memory.write]
    split
    · rename_i hlt
      split
      · rename_i hv
        have hne : a ≠ e.1 := by omega
        simp only [Memory.read, hne, if_false]
        rw [Memory.read_below h4 (by omega), hv]
      · simp [Memory.read]
    · split
      · rename_i he
        split
        · rename_i hv
          rw [he, Memory.read_below h4 (by omega), hv]
        · simp [Memory.read]
      · rename_i hne
        simp only [Memory.read, hne, if_false]
        exact ih h4

/-- A read after a write to the same address gives the byte written. -/
theorem Memory.read_write_self {m : List Host.Cell} (a : Nat) (v : Byte) (wf : Memory.wf m = true) :
    Memory.read (Memory.write m a v) a = v :=
  Memory.read_write_self_from v wf

/-! ### The parameter BUS -/

@[simp] theorem Bus.kindIn_nil (a : Word) : Bus.kindIn [] a = .ram := rfl

/-- Operations that keep the regions keep the kind of every address. -/
theorem State.kindAt_congr {s t : State} (h : t.regions = s.regions) (a : Word) : t.kindAt a = s.kindAt a := by
  simp [State.kindAt, h]

@[simp] theorem State.kindAt_noteRead (s : State) (a b : Word) : (s.noteRead a).kindAt b = s.kindAt b := rfl

@[simp] theorem State.kindAt_noteRead16 (s : State) (a b : Word) : (s.noteRead16 a).kindAt b = s.kindAt b := rfl

@[simp] theorem State.kindAt_store (s : State) (a b : Word) (v : Byte) : (s.store a v).kindAt b = s.kindAt b := rfl

@[simp] theorem State.kindAt_store16 (s : State) (a b v : Word) : (s.store16 a v).kindAt b = s.kindAt b := rfl

@[simp] theorem State.kindAt_push16 (s : State) (v b : Word) : (s.push16 v).kindAt b = s.kindAt b := rfl

@[simp] theorem State.kindAt_popped (s : State) (b : Word) : s.popped.kindAt b = s.kindAt b := rfl

theorem State.memAfter_ram {s : State} {a : Word} (v : Byte) (h : s.kindAt a = .ram) :
    s.memAfter a v = Memory.write s.mem a.toNat v := by simp [State.memAfter, h]

theorem State.memAfter_of_ne {s : State} {a : Word} (v : Byte) (h : s.kindAt a ≠ .ram) : s.memAfter a v = s.mem := by
  unfold State.memAfter
  split
  · exact absurd ‹_› h
  · rfl
  · rfl

/-- A write leaves memory as it was, or writes one byte in plain memory. -/
theorem State.memAfter_cases (s : State) (a : Word) (v : Byte) :
    (s.kindAt a = .ram ∧ s.memAfter a v = Memory.write s.mem a.toNat v) ∨
    (s.kindAt a ≠ .ram ∧ s.memAfter a v = s.mem) := by
  by_cases h : s.kindAt a = .ram
  · exact .inl ⟨h, s.memAfter_ram v h⟩
  · exact .inr ⟨h, s.memAfter_of_ne v h⟩

theorem State.peek_of_ne {s : State} {a : Word} (h : s.kindAt a ≠ .device) : s.peek a = s.held a := by
  unfold State.peek
  split
  · rfl
  · rfl
  · exact absurd ‹_› h

theorem State.peek_device {s : State} {a : Word} (h : s.kindAt a = .device) :
    s.peek a = s.answers.headD (s.held a) := by simp [State.peek, h]

theorem State.answersAfter_of_ne {s : State} {a : Word} (h : s.kindAt a ≠ .device) : s.answersAfter a = s.answers := by
  unfold State.answersAfter
  split
  · rfl
  · rfl
  · exact absurd ‹_› h

theorem State.answersAfter_device {s : State} {a : Word} (h : s.kindAt a = .device) :
    s.answersAfter a = s.answers.tail := by simp [State.answersAfter, h]

/-- A read outside the devices returns the byte held and is only noted in the trace. -/
theorem State.noteRead_of_ne {s : State} {a : Word} (h : s.kindAt a ≠ .device) :
    s.noteRead a = { s with bus := s.bus ++ [.read a (s.held a)] } := by
  simp [State.noteRead, State.answersAfter_of_ne h, State.peek_of_ne h]

/-! ### The byte held, after each operation -/

theorem State.held_store_self {s : State} {a : Word} (v : Byte) (k : s.kindAt a = .ram)
    (wf : Memory.wf s.mem = true) : (s.store a v).held a = v := by
  simp [State.held, State.memAfter_ram v k, Memory.read_write_self _ v wf]

theorem State.held_store_of_ne (s : State) {a b : Word} (v : Byte) (h : b ≠ a) : (s.store a v).held b = s.held b := by
  obtain ⟨-, e⟩ | ⟨-, e⟩ := s.memAfter_cases a v
  · simp [State.held, e, Memory.read_write_of_ne s.mem v (fun e => h (BitVec.eq_of_toNat_eq e))]
  · simp [State.held, e]

@[simp] theorem State.held_noteRead (s : State) (a b : Word) : (s.noteRead a).held b = s.held b := rfl

@[simp] theorem State.held_noteRead16 (s : State) (a b : Word) : (s.noteRead16 a).held b = s.held b := rfl

@[simp] theorem State.held_popped (s : State) (b : Word) : s.popped.held b = s.held b := rfl

theorem State.held_store16_of_ne (s : State) {a b : Word} (v : Word) (h0 : b ≠ a) (h1 : b ≠ a + 1) :
    (s.store16 a v).held b = s.held b := by
  unfold State.store16
  rw [State.held_store_of_ne _ _ h1, State.held_store_of_ne _ _ h0]

theorem State.held_push16_of_ne (s : State) {b : Word} (v : Word) (h1 : b ≠ s.sp - 1) (h2 : b ≠ s.sp - 2) :
    (s.push16 v).held b = s.held b := by
  have : (s.push16 v).held b = ((s.store (s.sp - 1) (hi v)).store (s.sp - 2) (lo v)).held b := rfl
  rw [this, State.held_store_of_ne _ _ h2, State.held_store_of_ne _ _ h1]

/-! ### The canonical form, after each operation -/

theorem State.wf_store {s : State} (a : Word) (v : Byte) (wf : Memory.wf s.mem = true) :
    Memory.wf (s.store a v).mem = true := by
  obtain ⟨-, e⟩ | ⟨-, e⟩ := s.memAfter_cases a v <;> simp [e, wf, Memory.wf_write a v wf]

theorem State.wf_store16 {s : State} (a v : Word) (wf : Memory.wf s.mem = true) :
    Memory.wf (s.store16 a v).mem = true := State.wf_store _ _ (State.wf_store _ _ wf)

theorem State.wf_push16 {s : State} (v : Word) (wf : Memory.wf s.mem = true) :
    Memory.wf (s.push16 v).mem = true := State.wf_store _ _ (State.wf_store _ _ wf)

theorem State.wf_put {s : State} (o : Operand8) (v : Byte) (wf : Memory.wf s.mem = true) :
    Memory.wf (s.put o v).mem = true := by
  cases o with
  | reg r => cases r <;> exact wf
  | memHL => exact State.wf_store _ _ wf

theorem State.wf_enterInterrupt {s : State} (k : Fin 5) (wf : Memory.wf s.mem = true) :
    Memory.wf (s.enterInterrupt k).mem = true :=
  State.wf_push16 (s := { s with ime := false, pendingEnable := false, haltBug := false }) s.pc wf

theorem State.wf_load {s : State} (a : Word) (vs : List Byte) (wf : Memory.wf s.mem = true) :
    Memory.wf (s.load a vs).mem = true := by
  induction vs generalizing s a with
  | nil => exact wf
  | cons v vs ih =>
    exact ih (s := { s with mem := Memory.write s.mem a.toNat v }) (a + 1) (Memory.wf_write a v wf)

/-- Memory at reset is canonical: it lists nothing. -/
theorem Memory.wf_reset : Memory.wf State.reset.mem = true := rfl

end Sys2Proof.Machine
end

