-- ==== Sys2Proof/Laws/Ops.lean ====
section
/-! SUPPORT. What the composed operations do, said once: the conditional transfer, the CB-table effect, the state an
instruction starts from and the state a step ends in, field by field. -/

namespace Sys2Proof.Machine

theorem State.when_pos {s : State} {cc : Cond} (f : State → State) (h : s.cond cc = true) : s.when cc f = f s := by
  simp [State.when, h]

theorem State.when_neg {s : State} {cc : Cond} (f : State → State) (h : s.cond cc = false) :
    s.when cc f = { s with taken := false } := by
  simp [State.when, h]

/-- The CB-table entry of a byte does what `cbEffect` says of the byte. -/
theorem exec_cbRow (op : Byte) (s : State) : exec (cbRow op) s = .next (s.cbEffect op) := by
  unfold cbRow State.cbEffect
  generalize fieldX op = x
  match x with
  | 0 => exact exec_rot _ _ _
  | 1 => exact exec_bit _ _ _
  | 2 => exact exec_res _ _ _
  | _ + 3 => exact exec_set _ _ _

/-! ### The operand in place -/

@[simp] theorem State.modify_f (s : State) (o : Operand8) (v : Byte) (f : Flags) : (s.modify o v f).f = f := rfl

theorem State.modify_reg (s : State) (r : Reg8) (v : Byte) (f : Flags) :
    s.modify (.reg r) v f = { s.setReg r v with f := f } := rfl

theorem State.modify_memHL (s : State) (v : Byte) (f : Flags) :
    s.modify .memHL v f = { (s.noteRead s.hl).store s.hl v with f := f } := rfl

theorem State.wf_modify {s : State} (o : Operand8) (v : Byte) (f : Flags) (wf : Memory.wf s.mem = true) :
    Memory.wf (s.modify o v f).mem = true :=
  State.wf_put (s := s.touch o) o v (by simpa using wf)

/-! ### afterFetch -/

@[simp] theorem State.afterFetch_a (s : State) : s.afterFetch.a = s.a := State.noteFetch_a s
@[simp] theorem State.afterFetch_b (s : State) : s.afterFetch.b = s.b := State.noteFetch_b s
@[simp] theorem State.afterFetch_c (s : State) : s.afterFetch.c = s.c := State.noteFetch_c s
@[simp] theorem State.afterFetch_d (s : State) : s.afterFetch.d = s.d := State.noteFetch_d s
@[simp] theorem State.afterFetch_e (s : State) : s.afterFetch.e = s.e := State.noteFetch_e s
@[simp] theorem State.afterFetch_h (s : State) : s.afterFetch.h = s.h := State.noteFetch_h s
@[simp] theorem State.afterFetch_l (s : State) : s.afterFetch.l = s.l := State.noteFetch_l s
@[simp] theorem State.afterFetch_f (s : State) : s.afterFetch.f = s.f := State.noteFetch_f s
@[simp] theorem State.afterFetch_sp (s : State) : s.afterFetch.sp = s.sp := State.noteFetch_sp s
@[simp] theorem State.afterFetch_ime (s : State) : s.afterFetch.ime = s.ime := State.noteFetch_ime s
@[simp] theorem State.afterFetch_pendingEnable (s : State) : s.afterFetch.pendingEnable = s.pendingEnable := State.noteFetch_pendingEnable s
@[simp] theorem State.afterFetch_lowPower (s : State) : s.afterFetch.lowPower = s.lowPower := State.noteFetch_lowPower s
@[simp] theorem State.afterFetch_cycleDebt (s : State) : s.afterFetch.cycleDebt = s.cycleDebt := State.noteFetch_cycleDebt s
@[simp] theorem State.afterFetch_fault (s : State) : s.afterFetch.fault = s.fault := State.noteFetch_fault s
@[simp] theorem State.afterFetch_mem (s : State) : s.afterFetch.mem = s.mem := State.noteFetch_mem s
@[simp] theorem State.afterFetch_regions (s : State) : s.afterFetch.regions = s.regions := State.noteFetch_regions s
@[simp] theorem State.afterFetch_irq (s : State) : s.afterFetch.irq = s.irq := State.noteFetch_irq s
@[simp] theorem State.afterFetch_inputs (s : State) : s.afterFetch.inputs = s.inputs := State.noteFetch_inputs s
@[simp] theorem State.afterFetch_ack (s : State) : s.afterFetch.ack = s.ack := State.noteFetch_ack s
@[simp] theorem State.afterFetch_taken (s : State) : s.afterFetch.taken = s.taken := State.noteFetch_taken s
@[simp] theorem State.afterFetch_cost (s : State) : s.afterFetch.cost = s.cost := State.noteFetch_cost s
@[simp] theorem State.afterFetch_haltBug (s : State) : s.afterFetch.haltBug = false := rfl
@[simp] theorem State.afterFetch_bus (s : State) : s.afterFetch.bus = s.noteFetch.bus := rfl
@[simp] theorem State.afterFetch_answers (s : State) : s.afterFetch.answers = s.noteFetch.answers := rfl
@[simp] theorem State.afterFetch_pc (s : State) :
    s.afterFetch.pc = s.cursor + BitVec.ofNat 16 (operandBytes (s.peek s.pc)) := rfl

/-! ### complete -/

@[simp] theorem State.complete_a (s : State) (p0 : Bool) (n : Nat × Nat) : (s.complete p0 n).a = s.a :=
  State.promote_a s p0
@[simp] theorem State.complete_b (s : State) (p0 : Bool) (n : Nat × Nat) : (s.complete p0 n).b = s.b :=
  State.promote_b s p0
@[simp] theorem State.complete_c (s : State) (p0 : Bool) (n : Nat × Nat) : (s.complete p0 n).c = s.c :=
  State.promote_c s p0
@[simp] theorem State.complete_d (s : State) (p0 : Bool) (n : Nat × Nat) : (s.complete p0 n).d = s.d :=
  State.promote_d s p0
@[simp] theorem State.complete_e (s : State) (p0 : Bool) (n : Nat × Nat) : (s.complete p0 n).e = s.e :=
  State.promote_e s p0
@[simp] theorem State.complete_h (s : State) (p0 : Bool) (n : Nat × Nat) : (s.complete p0 n).h = s.h :=
  State.promote_h s p0
@[simp] theorem State.complete_l (s : State) (p0 : Bool) (n : Nat × Nat) : (s.complete p0 n).l = s.l :=
  State.promote_l s p0
@[simp] theorem State.complete_f (s : State) (p0 : Bool) (n : Nat × Nat) : (s.complete p0 n).f = s.f :=
  State.promote_f s p0
@[simp] theorem State.complete_sp (s : State) (p0 : Bool) (n : Nat × Nat) : (s.complete p0 n).sp = s.sp :=
  State.promote_sp s p0
@[simp] theorem State.complete_pc (s : State) (p0 : Bool) (n : Nat × Nat) : (s.complete p0 n).pc = s.pc :=
  State.promote_pc s p0
@[simp] theorem State.complete_lowPower (s : State) (p0 : Bool) (n : Nat × Nat) : (s.complete p0 n).lowPower = s.lowPower :=
  State.promote_lowPower s p0
@[simp] theorem State.complete_haltBug (s : State) (p0 : Bool) (n : Nat × Nat) : (s.complete p0 n).haltBug = s.haltBug :=
  State.promote_haltBug s p0
@[simp] theorem State.complete_cycleDebt (s : State) (p0 : Bool) (n : Nat × Nat) : (s.complete p0 n).cycleDebt = s.cycleDebt :=
  State.promote_cycleDebt s p0
@[simp] theorem State.complete_fault (s : State) (p0 : Bool) (n : Nat × Nat) : (s.complete p0 n).fault = s.fault :=
  State.promote_fault s p0
@[simp] theorem State.complete_mem (s : State) (p0 : Bool) (n : Nat × Nat) : (s.complete p0 n).mem = s.mem :=
  State.promote_mem s p0
@[simp] theorem State.complete_regions (s : State) (p0 : Bool) (n : Nat × Nat) : (s.complete p0 n).regions = s.regions :=
  State.promote_regions s p0
@[simp] theorem State.complete_irq (s : State) (p0 : Bool) (n : Nat × Nat) : (s.complete p0 n).irq = s.irq :=
  State.promote_irq s p0
@[simp] theorem State.complete_inputs (s : State) (p0 : Bool) (n : Nat × Nat) : (s.complete p0 n).inputs = s.inputs :=
  State.promote_inputs s p0
@[simp] theorem State.complete_answers (s : State) (p0 : Bool) (n : Nat × Nat) : (s.complete p0 n).answers = s.answers :=
  State.promote_answers s p0
@[simp] theorem State.complete_ack (s : State) (p0 : Bool) (n : Nat × Nat) : (s.complete p0 n).ack = s.ack :=
  State.promote_ack s p0
@[simp] theorem State.complete_bus (s : State) (p0 : Bool) (n : Nat × Nat) : (s.complete p0 n).bus = s.bus :=
  State.promote_bus s p0
@[simp] theorem State.complete_taken (s : State) (p0 : Bool) (n : Nat × Nat) : (s.complete p0 n).taken = s.taken :=
  State.promote_taken s p0

theorem State.complete_ime (s : State) (p0 : Bool) (n : Nat × Nat) :
    (s.complete p0 n).ime = (s.ime || (p0 && s.pendingEnable)) := by
  cases p0 <;> cases h : s.pendingEnable <;> simp [State.complete, State.promote, h]

theorem State.complete_pendingEnable (s : State) (p0 : Bool) (n : Nat × Nat) :
    (s.complete p0 n).pendingEnable = (s.pendingEnable && !p0) := by
  cases p0 <;> cases h : s.pendingEnable <;> simp [State.complete, State.promote, h]

theorem State.complete_cost (s : State) (p0 : Bool) (n : Nat × Nat) :
    (s.complete p0 n).cost = if s.taken then n.1 else n.2 := by
  simp [State.complete]

end Sys2Proof.Machine
end

