-- ==== Sys2Proof/Laws/Step.lean ====
section
/-! SUPPORT. What one step can do, said once: the cases of `step`, `stepAwake`, `runInstr` and `tick` that answer a
next state. Proofs over every step cite these and unfold none of the four. -/

namespace Sys2Proof.Machine

theorem mapNext_eq_next {f : State → State} {r : Result} {t : State} (h : mapNext f r = .next t) :
    ∃ u, r = .next u ∧ t = f u := by
  cases r with
  | next u => exact ⟨u, rfl, by simpa [mapNext] using h.symm⟩
  | fault f => simp [mapNext] at h
  | refused r => simp [mapNext] at h

/-! ### Fetching, by the number of operand bytes -/

theorem State.noteFetch_zero {s : State} (h : operandBytes (s.peek s.pc) = 0) : s.noteFetch = s.noteRead s.pc := by
  simp [State.noteFetch, h]

theorem State.noteFetch_one {s : State} (h : operandBytes (s.peek s.pc) = 1) :
    s.noteFetch = (s.noteRead s.pc).noteRead s.cursor := by
  simp [State.noteFetch, h]

theorem State.noteFetch_two {s : State} (h : operandBytes (s.peek s.pc) = 2) :
    s.noteFetch = (s.noteRead s.pc).noteRead16 s.cursor := by
  simp [State.noteFetch, h]

/-! ### The cases of a step -/

/-- A step that answers a next state is a reset, or the core had no latched fault and the step was taken awake or
asleep. -/
theorem step_cases {s t : State} (h : step s = .next t) :
    (∃ g, s.input.reset = some g ∧ t = s.beginStep.resetCore g) ∨
    (s.input.reset = none ∧ s.fault = none ∧ stepAwake s.beginStep = .next t) := by
  unfold step at h
  split at h
  · rename_i g hg
    exact .inl ⟨g, hg, by simpa using h.symm⟩
  · split at h
    · simp at h
    · exact .inr ⟨‹_›, ‹_›, h⟩

/-- Such a step idles, or enters an interrupt, or runs an instruction; after the first it is awake. -/
theorem stepAwake_cases {s t : State} (h : stepAwake s = .next t) :
    (s.asleep = true ∧ t = s.idle) ∨
    (s.asleep = false ∧ ∃ k, s.wake.accepted = some k ∧ t = s.wake.enterInterrupt k) ∨
    (s.asleep = false ∧ s.wake.accepted = none ∧ runInstr s.wake = .next t) := by
  unfold stepAwake at h
  split at h
  · exact .inl ⟨‹_›, by simpa using h.symm⟩
  · rename_i ha
    have ha : s.asleep = false := by simpa using ha
    split at h
    · rename_i k hk
      exact .inr (.inl ⟨ha, k, hk, by simpa using h.symm⟩)
    · exact .inr (.inr ⟨ha, ‹_›, h⟩)

/-- Running an instruction meets a byte without one, or executes what the bytes at PC decode to and completes. -/
theorem runInstr_cases {s t : State} (h : runInstr s = .next t) :
    (s.fetched.isIllegal = true ∧ exec s.fetched (s.noteRead s.pc) = .next t) ∨
    (s.fetched.isIllegal = false ∧
      ∃ u, exec s.fetched s.afterFetch = .next u ∧ t = u.complete s.pendingEnable (cycles s.fetched)) := by
  unfold runInstr at h
  split at h
  · exact .inl ⟨‹_›, h⟩
  · rename_i hi
    exact .inr ⟨by simpa using hi, mapNext_eq_next h⟩

theorem tick_cases {unit : Config.CycleUnit} {s t : State} (h : tick unit s = .next t) :
    ((s.cycleDebt = 0 ∨ s.input.reset.isSome = true) ∧
      ∃ u, step s = .next u ∧ t = { u with cycleDebt := u.cost * unit.perMachineCycle - 1 }) ∨
    (s.cycleDebt ≠ 0 ∧ s.input.reset = none ∧ t = { s with cycleDebt := s.cycleDebt - 1 }) := by
  unfold tick at h
  split at h
  · exact .inl ⟨‹_›, mapNext_eq_next h⟩
  · rename_i hn
    exact .inr ⟨fun e => hn (.inl e), by simpa using fun e => hn (.inr e), by simpa using h.symm⟩

end Sys2Proof.Machine
end

