-- ==== Sys2Proof/Tests/Slice0.lean ====
section
/-! SUPPORT. Tests: what WellFormed refuses, the decoding of a word for every row of the table, single steps with the
results the spec's own examples give (the rule is named at each), and for every statement with hypotheses a witness
that meets them. -/

namespace Sys2Proof.Tests

open Sys2Proof.Machine Sys2Proof.Statements

/-! ### Helpers -/

/-- The reset state: registers and flags zero, PC 0x0100, SP 0xFFFE, empty memory. -/
def cpu : State := State.reset

/-- `s` with bytes in memory from an address on. -/
def put (s : State) (a : Word) (bs : List Byte) : State := s.load a bs

/-- `s` with HL = 0xC000 and the byte `v` there. -/
def atHL (s : State) (v : Byte) : State := put { s with h := 0xC0, l := 0x00 } 0xC000 [v]

/-- Whether a result is a next state with property `p`. -/
def after (r : Result) (p : State → Bool) : Bool :=
  match r with
  | .next t => p t
  | _ => false

/-- Whether a result is the fault `f`. -/
def faults (r : Result) (f : Fault) : Bool :=
  match r with
  | .fault g => f == g
  | _ => false

/-- Whether bytes decode to exactly the instruction. -/
def decodesTo (p : List Byte × Instr) : Bool :=
  match decode p.1 with
  | .ok (i, []) => i == p.2
  | _ => false

/-- F as a byte, to write the flags Z N H C as its high nibble. -/
def flagsAre (s : State) (v : Byte) : Bool := s.f.toByte == v

/-- `s` with F holding the byte `v`. -/
def withF (v : Byte) (s : State) : State := { s with f := Flags.ofByte v }

/-! ### WellFormed -/

theorem test_wf_refuses_prefix : (Instr.prefix_CB 0x7C).wf = false := by decide

theorem test_wf_refuses_illegal_D3 : Instr.illegal_D3.wf = false := by decide
theorem test_wf_refuses_illegal_DB : Instr.illegal_DB.wf = false := by decide
theorem test_wf_refuses_illegal_DD : Instr.illegal_DD.wf = false := by decide
theorem test_wf_refuses_illegal_E3 : Instr.illegal_E3.wf = false := by decide
theorem test_wf_refuses_illegal_E4 : Instr.illegal_E4.wf = false := by decide
theorem test_wf_refuses_illegal_EB : Instr.illegal_EB.wf = false := by decide
theorem test_wf_refuses_illegal_EC : Instr.illegal_EC.wf = false := by decide
theorem test_wf_refuses_illegal_ED : Instr.illegal_ED.wf = false := by decide
theorem test_wf_refuses_illegal_F4 : Instr.illegal_F4.wf = false := by decide
theorem test_wf_refuses_illegal_FC : Instr.illegal_FC.wf = false := by decide
theorem test_wf_refuses_illegal_FD : Instr.illegal_FD.wf = false := by decide

theorem test_wf_accepts : (Instr.stop 0x42).wf = true ∧ Instr.ld_B_B.wf = true := by decide

/-! ### Decoding: one word for every row, a theorem per row of the 16 by 16 grids of 30_encoding.md (section 4, R107) -/

theorem test_decode_base_0x : ([
    ([0x00], .nop), ([0x01, 0x34, 0x12], .ld_BC_n16 0x1234), ([0x02], .ld_mBC_A), ([0x03], .inc_BC),
    ([0x04], .inc_B), ([0x05], .dec_B), ([0x06, 0x5A], .ld_B_n8 0x5A), ([0x07], .rlca),
    ([0x08, 0xCD, 0xAB], .ld_ma16_SP 0xABCD), ([0x09], .add_HL_BC), ([0x0A], .ld_A_mBC), ([0x0B], .dec_BC),
    ([0x0C], .inc_C), ([0x0D], .dec_C), ([0x0E, 0x5A], .ld_C_n8 0x5A), ([0x0F], .rrca)] : List (List Byte × Instr)).all decodesTo = true := by decide

theorem test_decode_base_1x : ([
    ([0x10, 0x00], .stop 0x00), ([0x11, 0x34, 0x12], .ld_DE_n16 0x1234), ([0x12], .ld_mDE_A), ([0x13], .inc_DE),
    ([0x14], .inc_D), ([0x15], .dec_D), ([0x16, 0x5A], .ld_D_n8 0x5A), ([0x17], .rla), ([0x18, 0xFE], .jr_e8 0xFE),
    ([0x19], .add_HL_DE), ([0x1A], .ld_A_mDE), ([0x1B], .dec_DE), ([0x1C], .inc_E), ([0x1D], .dec_E),
    ([0x1E, 0x5A], .ld_E_n8 0x5A), ([0x1F], .rra)] : List (List Byte × Instr)).all decodesTo = true := by decide

theorem test_decode_base_2x : ([
    ([0x20, 0xFE], .jr_NZ_e8 0xFE), ([0x21, 0x34, 0x12], .ld_HL_n16 0x1234), ([0x22], .ld_mHLi_A),
    ([0x23], .inc_HL), ([0x24], .inc_H), ([0x25], .dec_H), ([0x26, 0x5A], .ld_H_n8 0x5A), ([0x27], .daa),
    ([0x28, 0xFE], .jr_Z_e8 0xFE), ([0x29], .add_HL_HL), ([0x2A], .ld_A_mHLi), ([0x2B], .dec_HL), ([0x2C], .inc_L),
    ([0x2D], .dec_L), ([0x2E, 0x5A], .ld_L_n8 0x5A), ([0x2F], .cpl)] : List (List Byte × Instr)).all decodesTo = true := by decide

theorem test_decode_base_3x : ([
    ([0x30, 0xFE], .jr_NC_e8 0xFE), ([0x31, 0x34, 0x12], .ld_SP_n16 0x1234), ([0x32], .ld_mHLd_A),
    ([0x33], .inc_SP), ([0x34], .inc_mHL), ([0x35], .dec_mHL), ([0x36, 0x5A], .ld_mHL_n8 0x5A), ([0x37], .scf),
    ([0x38, 0xFE], .jr_C_e8 0xFE), ([0x39], .add_HL_SP), ([0x3A], .ld_A_mHLd), ([0x3B], .dec_SP), ([0x3C], .inc_A),
    ([0x3D], .dec_A), ([0x3E, 0x5A], .ld_A_n8 0x5A), ([0x3F], .ccf)] : List (List Byte × Instr)).all decodesTo = true := by decide

theorem test_decode_base_4x : ([
    ([0x40], .ld_B_B), ([0x41], .ld_B_C), ([0x42], .ld_B_D), ([0x43], .ld_B_E), ([0x44], .ld_B_H),
    ([0x45], .ld_B_L), ([0x46], .ld_B_mHL), ([0x47], .ld_B_A), ([0x48], .ld_C_B), ([0x49], .ld_C_C),
    ([0x4A], .ld_C_D), ([0x4B], .ld_C_E), ([0x4C], .ld_C_H), ([0x4D], .ld_C_L), ([0x4E], .ld_C_mHL),
    ([0x4F], .ld_C_A)] : List (List Byte × Instr)).all decodesTo = true := by decide

theorem test_decode_base_5x : ([
    ([0x50], .ld_D_B), ([0x51], .ld_D_C), ([0x52], .ld_D_D), ([0x53], .ld_D_E), ([0x54], .ld_D_H),
    ([0x55], .ld_D_L), ([0x56], .ld_D_mHL), ([0x57], .ld_D_A), ([0x58], .ld_E_B), ([0x59], .ld_E_C),
    ([0x5A], .ld_E_D), ([0x5B], .ld_E_E), ([0x5C], .ld_E_H), ([0x5D], .ld_E_L), ([0x5E], .ld_E_mHL),
    ([0x5F], .ld_E_A)] : List (List Byte × Instr)).all decodesTo = true := by decide

theorem test_decode_base_6x : ([
    ([0x60], .ld_H_B), ([0x61], .ld_H_C), ([0x62], .ld_H_D), ([0x63], .ld_H_E), ([0x64], .ld_H_H),
    ([0x65], .ld_H_L), ([0x66], .ld_H_mHL), ([0x67], .ld_H_A), ([0x68], .ld_L_B), ([0x69], .ld_L_C),
    ([0x6A], .ld_L_D), ([0x6B], .ld_L_E), ([0x6C], .ld_L_H), ([0x6D], .ld_L_L), ([0x6E], .ld_L_mHL),
    ([0x6F], .ld_L_A)] : List (List Byte × Instr)).all decodesTo = true := by decide

theorem test_decode_base_7x : ([
    ([0x70], .ld_mHL_B), ([0x71], .ld_mHL_C), ([0x72], .ld_mHL_D), ([0x73], .ld_mHL_E), ([0x74], .ld_mHL_H),
    ([0x75], .ld_mHL_L), ([0x76], .halt), ([0x77], .ld_mHL_A), ([0x78], .ld_A_B), ([0x79], .ld_A_C),
    ([0x7A], .ld_A_D), ([0x7B], .ld_A_E), ([0x7C], .ld_A_H), ([0x7D], .ld_A_L), ([0x7E], .ld_A_mHL),
    ([0x7F], .ld_A_A)] : List (List Byte × Instr)).all decodesTo = true := by decide

theorem test_decode_base_8x : ([
    ([0x80], .add_A_B), ([0x81], .add_A_C), ([0x82], .add_A_D), ([0x83], .add_A_E), ([0x84], .add_A_H),
    ([0x85], .add_A_L), ([0x86], .add_A_mHL), ([0x87], .add_A_A), ([0x88], .adc_A_B), ([0x89], .adc_A_C),
    ([0x8A], .adc_A_D), ([0x8B], .adc_A_E), ([0x8C], .adc_A_H), ([0x8D], .adc_A_L), ([0x8E], .adc_A_mHL),
    ([0x8F], .adc_A_A)] : List (List Byte × Instr)).all decodesTo = true := by decide

theorem test_decode_base_9x : ([
    ([0x90], .sub_A_B), ([0x91], .sub_A_C), ([0x92], .sub_A_D), ([0x93], .sub_A_E), ([0x94], .sub_A_H),
    ([0x95], .sub_A_L), ([0x96], .sub_A_mHL), ([0x97], .sub_A_A), ([0x98], .sbc_A_B), ([0x99], .sbc_A_C),
    ([0x9A], .sbc_A_D), ([0x9B], .sbc_A_E), ([0x9C], .sbc_A_H), ([0x9D], .sbc_A_L), ([0x9E], .sbc_A_mHL),
    ([0x9F], .sbc_A_A)] : List (List Byte × Instr)).all decodesTo = true := by decide

theorem test_decode_base_Ax : ([
    ([0xA0], .and_A_B), ([0xA1], .and_A_C), ([0xA2], .and_A_D), ([0xA3], .and_A_E), ([0xA4], .and_A_H),
    ([0xA5], .and_A_L), ([0xA6], .and_A_mHL), ([0xA7], .and_A_A), ([0xA8], .xor_A_B), ([0xA9], .xor_A_C),
    ([0xAA], .xor_A_D), ([0xAB], .xor_A_E), ([0xAC], .xor_A_H), ([0xAD], .xor_A_L), ([0xAE], .xor_A_mHL),
    ([0xAF], .xor_A_A)] : List (List Byte × Instr)).all decodesTo = true := by decide

theorem test_decode_base_Bx : ([
    ([0xB0], .or_A_B), ([0xB1], .or_A_C), ([0xB2], .or_A_D), ([0xB3], .or_A_E), ([0xB4], .or_A_H),
    ([0xB5], .or_A_L), ([0xB6], .or_A_mHL), ([0xB7], .or_A_A), ([0xB8], .cp_A_B), ([0xB9], .cp_A_C),
    ([0xBA], .cp_A_D), ([0xBB], .cp_A_E), ([0xBC], .cp_A_H), ([0xBD], .cp_A_L), ([0xBE], .cp_A_mHL),
    ([0xBF], .cp_A_A)] : List (List Byte × Instr)).all decodesTo = true := by decide

theorem test_decode_base_Cx : ([
    ([0xC0], .ret_NZ), ([0xC1], .pop_BC), ([0xC2, 0xCD, 0xAB], .jp_NZ_a16 0xABCD),
    ([0xC3, 0xCD, 0xAB], .jp_a16 0xABCD), ([0xC4, 0xCD, 0xAB], .call_NZ_a16 0xABCD), ([0xC5], .push_BC),
    ([0xC6, 0x5A], .add_A_n8 0x5A), ([0xC7], .rst_00), ([0xC8], .ret_Z), ([0xC9], .ret),
    ([0xCA, 0xCD, 0xAB], .jp_Z_a16 0xABCD), ([0xCC, 0xCD, 0xAB], .call_Z_a16 0xABCD),
    ([0xCD, 0xCD, 0xAB], .call_a16 0xABCD), ([0xCE, 0x5A], .adc_A_n8 0x5A), ([0xCF], .rst_08)] : List (List Byte × Instr)).all decodesTo = true := by decide

theorem test_decode_base_Dx : ([
    ([0xD0], .ret_NC), ([0xD1], .pop_DE), ([0xD2, 0xCD, 0xAB], .jp_NC_a16 0xABCD), ([0xD3], .illegal_D3),
    ([0xD4, 0xCD, 0xAB], .call_NC_a16 0xABCD), ([0xD5], .push_DE), ([0xD6, 0x5A], .sub_A_n8 0x5A),
    ([0xD7], .rst_10), ([0xD8], .ret_C), ([0xD9], .reti), ([0xDA, 0xCD, 0xAB], .jp_C_a16 0xABCD),
    ([0xDB], .illegal_DB), ([0xDC, 0xCD, 0xAB], .call_C_a16 0xABCD), ([0xDD], .illegal_DD),
    ([0xDE, 0x5A], .sbc_A_n8 0x5A), ([0xDF], .rst_18)] : List (List Byte × Instr)).all decodesTo = true := by decide

theorem test_decode_base_Ex : ([
    ([0xE0, 0x34], .ldh_ma8_A 0x34), ([0xE1], .pop_HL), ([0xE2], .ldh_mC_A), ([0xE3], .illegal_E3),
    ([0xE4], .illegal_E4), ([0xE5], .push_HL), ([0xE6, 0x5A], .and_A_n8 0x5A), ([0xE7], .rst_20),
    ([0xE8, 0xFE], .add_SP_e8 0xFE), ([0xE9], .jp_HL), ([0xEA, 0xCD, 0xAB], .ld_ma16_A 0xABCD),
    ([0xEB], .illegal_EB), ([0xEC], .illegal_EC), ([0xED], .illegal_ED), ([0xEE, 0x5A], .xor_A_n8 0x5A),
    ([0xEF], .rst_28)] : List (List Byte × Instr)).all decodesTo = true := by decide

theorem test_decode_base_Fx : ([
    ([0xF0, 0x34], .ldh_A_ma8 0x34), ([0xF1], .pop_AF), ([0xF2], .ldh_A_mC), ([0xF3], .di), ([0xF4], .illegal_F4),
    ([0xF5], .push_AF), ([0xF6, 0x5A], .or_A_n8 0x5A), ([0xF7], .rst_30), ([0xF8, 0xFE], .ld_HL_SPe8 0xFE),
    ([0xF9], .ld_SP_HL), ([0xFA, 0xCD, 0xAB], .ld_A_ma16 0xABCD), ([0xFB], .ei), ([0xFC], .illegal_FC),
    ([0xFD], .illegal_FD), ([0xFE, 0x5A], .cp_A_n8 0x5A), ([0xFF], .rst_38)] : List (List Byte × Instr)).all decodesTo = true := by decide

theorem test_decode_cb_0x : ([
    ([0xCB, 0x00], .rlc_B), ([0xCB, 0x01], .rlc_C), ([0xCB, 0x02], .rlc_D), ([0xCB, 0x03], .rlc_E),
    ([0xCB, 0x04], .rlc_H), ([0xCB, 0x05], .rlc_L), ([0xCB, 0x06], .rlc_mHL), ([0xCB, 0x07], .rlc_A),
    ([0xCB, 0x08], .rrc_B), ([0xCB, 0x09], .rrc_C), ([0xCB, 0x0A], .rrc_D), ([0xCB, 0x0B], .rrc_E),
    ([0xCB, 0x0C], .rrc_H), ([0xCB, 0x0D], .rrc_L), ([0xCB, 0x0E], .rrc_mHL), ([0xCB, 0x0F], .rrc_A)] : List (List Byte × Instr)).all decodesTo = true := by decide

theorem test_decode_cb_1x : ([
    ([0xCB, 0x10], .rl_B), ([0xCB, 0x11], .rl_C), ([0xCB, 0x12], .rl_D), ([0xCB, 0x13], .rl_E),
    ([0xCB, 0x14], .rl_H), ([0xCB, 0x15], .rl_L), ([0xCB, 0x16], .rl_mHL), ([0xCB, 0x17], .rl_A),
    ([0xCB, 0x18], .rr_B), ([0xCB, 0x19], .rr_C), ([0xCB, 0x1A], .rr_D), ([0xCB, 0x1B], .rr_E),
    ([0xCB, 0x1C], .rr_H), ([0xCB, 0x1D], .rr_L), ([0xCB, 0x1E], .rr_mHL), ([0xCB, 0x1F], .rr_A)] : List (List Byte × Instr)).all decodesTo = true := by decide

theorem test_decode_cb_2x : ([
    ([0xCB, 0x20], .sla_B), ([0xCB, 0x21], .sla_C), ([0xCB, 0x22], .sla_D), ([0xCB, 0x23], .sla_E),
    ([0xCB, 0x24], .sla_H), ([0xCB, 0x25], .sla_L), ([0xCB, 0x26], .sla_mHL), ([0xCB, 0x27], .sla_A),
    ([0xCB, 0x28], .sra_B), ([0xCB, 0x29], .sra_C), ([0xCB, 0x2A], .sra_D), ([0xCB, 0x2B], .sra_E),
    ([0xCB, 0x2C], .sra_H), ([0xCB, 0x2D], .sra_L), ([0xCB, 0x2E], .sra_mHL), ([0xCB, 0x2F], .sra_A)] : List (List Byte × Instr)).all decodesTo = true := by decide

theorem test_decode_cb_3x : ([
    ([0xCB, 0x30], .swap_B), ([0xCB, 0x31], .swap_C), ([0xCB, 0x32], .swap_D), ([0xCB, 0x33], .swap_E),
    ([0xCB, 0x34], .swap_H), ([0xCB, 0x35], .swap_L), ([0xCB, 0x36], .swap_mHL), ([0xCB, 0x37], .swap_A),
    ([0xCB, 0x38], .srl_B), ([0xCB, 0x39], .srl_C), ([0xCB, 0x3A], .srl_D), ([0xCB, 0x3B], .srl_E),
    ([0xCB, 0x3C], .srl_H), ([0xCB, 0x3D], .srl_L), ([0xCB, 0x3E], .srl_mHL), ([0xCB, 0x3F], .srl_A)] : List (List Byte × Instr)).all decodesTo = true := by decide

theorem test_decode_cb_4x : ([
    ([0xCB, 0x40], .bit_0_B), ([0xCB, 0x41], .bit_0_C), ([0xCB, 0x42], .bit_0_D), ([0xCB, 0x43], .bit_0_E),
    ([0xCB, 0x44], .bit_0_H), ([0xCB, 0x45], .bit_0_L), ([0xCB, 0x46], .bit_0_mHL), ([0xCB, 0x47], .bit_0_A),
    ([0xCB, 0x48], .bit_1_B), ([0xCB, 0x49], .bit_1_C), ([0xCB, 0x4A], .bit_1_D), ([0xCB, 0x4B], .bit_1_E),
    ([0xCB, 0x4C], .bit_1_H), ([0xCB, 0x4D], .bit_1_L), ([0xCB, 0x4E], .bit_1_mHL), ([0xCB, 0x4F], .bit_1_A)] : List (List Byte × Instr)).all decodesTo = true := by decide

theorem test_decode_cb_5x : ([
    ([0xCB, 0x50], .bit_2_B), ([0xCB, 0x51], .bit_2_C), ([0xCB, 0x52], .bit_2_D), ([0xCB, 0x53], .bit_2_E),
    ([0xCB, 0x54], .bit_2_H), ([0xCB, 0x55], .bit_2_L), ([0xCB, 0x56], .bit_2_mHL), ([0xCB, 0x57], .bit_2_A),
    ([0xCB, 0x58], .bit_3_B), ([0xCB, 0x59], .bit_3_C), ([0xCB, 0x5A], .bit_3_D), ([0xCB, 0x5B], .bit_3_E),
    ([0xCB, 0x5C], .bit_3_H), ([0xCB, 0x5D], .bit_3_L), ([0xCB, 0x5E], .bit_3_mHL), ([0xCB, 0x5F], .bit_3_A)] : List (List Byte × Instr)).all decodesTo = true := by decide

theorem test_decode_cb_6x : ([
    ([0xCB, 0x60], .bit_4_B), ([0xCB, 0x61], .bit_4_C), ([0xCB, 0x62], .bit_4_D), ([0xCB, 0x63], .bit_4_E),
    ([0xCB, 0x64], .bit_4_H), ([0xCB, 0x65], .bit_4_L), ([0xCB, 0x66], .bit_4_mHL), ([0xCB, 0x67], .bit_4_A),
    ([0xCB, 0x68], .bit_5_B), ([0xCB, 0x69], .bit_5_C), ([0xCB, 0x6A], .bit_5_D), ([0xCB, 0x6B], .bit_5_E),
    ([0xCB, 0x6C], .bit_5_H), ([0xCB, 0x6D], .bit_5_L), ([0xCB, 0x6E], .bit_5_mHL), ([0xCB, 0x6F], .bit_5_A)] : List (List Byte × Instr)).all decodesTo = true := by decide

theorem test_decode_cb_7x : ([
    ([0xCB, 0x70], .bit_6_B), ([0xCB, 0x71], .bit_6_C), ([0xCB, 0x72], .bit_6_D), ([0xCB, 0x73], .bit_6_E),
    ([0xCB, 0x74], .bit_6_H), ([0xCB, 0x75], .bit_6_L), ([0xCB, 0x76], .bit_6_mHL), ([0xCB, 0x77], .bit_6_A),
    ([0xCB, 0x78], .bit_7_B), ([0xCB, 0x79], .bit_7_C), ([0xCB, 0x7A], .bit_7_D), ([0xCB, 0x7B], .bit_7_E),
    ([0xCB, 0x7C], .bit_7_H), ([0xCB, 0x7D], .bit_7_L), ([0xCB, 0x7E], .bit_7_mHL), ([0xCB, 0x7F], .bit_7_A)] : List (List Byte × Instr)).all decodesTo = true := by decide

theorem test_decode_cb_8x : ([
    ([0xCB, 0x80], .res_0_B), ([0xCB, 0x81], .res_0_C), ([0xCB, 0x82], .res_0_D), ([0xCB, 0x83], .res_0_E),
    ([0xCB, 0x84], .res_0_H), ([0xCB, 0x85], .res_0_L), ([0xCB, 0x86], .res_0_mHL), ([0xCB, 0x87], .res_0_A),
    ([0xCB, 0x88], .res_1_B), ([0xCB, 0x89], .res_1_C), ([0xCB, 0x8A], .res_1_D), ([0xCB, 0x8B], .res_1_E),
    ([0xCB, 0x8C], .res_1_H), ([0xCB, 0x8D], .res_1_L), ([0xCB, 0x8E], .res_1_mHL), ([0xCB, 0x8F], .res_1_A)] : List (List Byte × Instr)).all decodesTo = true := by decide

theorem test_decode_cb_9x : ([
    ([0xCB, 0x90], .res_2_B), ([0xCB, 0x91], .res_2_C), ([0xCB, 0x92], .res_2_D), ([0xCB, 0x93], .res_2_E),
    ([0xCB, 0x94], .res_2_H), ([0xCB, 0x95], .res_2_L), ([0xCB, 0x96], .res_2_mHL), ([0xCB, 0x97], .res_2_A),
    ([0xCB, 0x98], .res_3_B), ([0xCB, 0x99], .res_3_C), ([0xCB, 0x9A], .res_3_D), ([0xCB, 0x9B], .res_3_E),
    ([0xCB, 0x9C], .res_3_H), ([0xCB, 0x9D], .res_3_L), ([0xCB, 0x9E], .res_3_mHL), ([0xCB, 0x9F], .res_3_A)] : List (List Byte × Instr)).all decodesTo = true := by decide

theorem test_decode_cb_Ax : ([
    ([0xCB, 0xA0], .res_4_B), ([0xCB, 0xA1], .res_4_C), ([0xCB, 0xA2], .res_4_D), ([0xCB, 0xA3], .res_4_E),
    ([0xCB, 0xA4], .res_4_H), ([0xCB, 0xA5], .res_4_L), ([0xCB, 0xA6], .res_4_mHL), ([0xCB, 0xA7], .res_4_A),
    ([0xCB, 0xA8], .res_5_B), ([0xCB, 0xA9], .res_5_C), ([0xCB, 0xAA], .res_5_D), ([0xCB, 0xAB], .res_5_E),
    ([0xCB, 0xAC], .res_5_H), ([0xCB, 0xAD], .res_5_L), ([0xCB, 0xAE], .res_5_mHL), ([0xCB, 0xAF], .res_5_A)] : List (List Byte × Instr)).all decodesTo = true := by decide

theorem test_decode_cb_Bx : ([
    ([0xCB, 0xB0], .res_6_B), ([0xCB, 0xB1], .res_6_C), ([0xCB, 0xB2], .res_6_D), ([0xCB, 0xB3], .res_6_E),
    ([0xCB, 0xB4], .res_6_H), ([0xCB, 0xB5], .res_6_L), ([0xCB, 0xB6], .res_6_mHL), ([0xCB, 0xB7], .res_6_A),
    ([0xCB, 0xB8], .res_7_B), ([0xCB, 0xB9], .res_7_C), ([0xCB, 0xBA], .res_7_D), ([0xCB, 0xBB], .res_7_E),
    ([0xCB, 0xBC], .res_7_H), ([0xCB, 0xBD], .res_7_L), ([0xCB, 0xBE], .res_7_mHL), ([0xCB, 0xBF], .res_7_A)] : List (List Byte × Instr)).all decodesTo = true := by decide

theorem test_decode_cb_Cx : ([
    ([0xCB, 0xC0], .set_0_B), ([0xCB, 0xC1], .set_0_C), ([0xCB, 0xC2], .set_0_D), ([0xCB, 0xC3], .set_0_E),
    ([0xCB, 0xC4], .set_0_H), ([0xCB, 0xC5], .set_0_L), ([0xCB, 0xC6], .set_0_mHL), ([0xCB, 0xC7], .set_0_A),
    ([0xCB, 0xC8], .set_1_B), ([0xCB, 0xC9], .set_1_C), ([0xCB, 0xCA], .set_1_D), ([0xCB, 0xCB], .set_1_E),
    ([0xCB, 0xCC], .set_1_H), ([0xCB, 0xCD], .set_1_L), ([0xCB, 0xCE], .set_1_mHL), ([0xCB, 0xCF], .set_1_A)] : List (List Byte × Instr)).all decodesTo = true := by decide

theorem test_decode_cb_Dx : ([
    ([0xCB, 0xD0], .set_2_B), ([0xCB, 0xD1], .set_2_C), ([0xCB, 0xD2], .set_2_D), ([0xCB, 0xD3], .set_2_E),
    ([0xCB, 0xD4], .set_2_H), ([0xCB, 0xD5], .set_2_L), ([0xCB, 0xD6], .set_2_mHL), ([0xCB, 0xD7], .set_2_A),
    ([0xCB, 0xD8], .set_3_B), ([0xCB, 0xD9], .set_3_C), ([0xCB, 0xDA], .set_3_D), ([0xCB, 0xDB], .set_3_E),
    ([0xCB, 0xDC], .set_3_H), ([0xCB, 0xDD], .set_3_L), ([0xCB, 0xDE], .set_3_mHL), ([0xCB, 0xDF], .set_3_A)] : List (List Byte × Instr)).all decodesTo = true := by decide

theorem test_decode_cb_Ex : ([
    ([0xCB, 0xE0], .set_4_B), ([0xCB, 0xE1], .set_4_C), ([0xCB, 0xE2], .set_4_D), ([0xCB, 0xE3], .set_4_E),
    ([0xCB, 0xE4], .set_4_H), ([0xCB, 0xE5], .set_4_L), ([0xCB, 0xE6], .set_4_mHL), ([0xCB, 0xE7], .set_4_A),
    ([0xCB, 0xE8], .set_5_B), ([0xCB, 0xE9], .set_5_C), ([0xCB, 0xEA], .set_5_D), ([0xCB, 0xEB], .set_5_E),
    ([0xCB, 0xEC], .set_5_H), ([0xCB, 0xED], .set_5_L), ([0xCB, 0xEE], .set_5_mHL), ([0xCB, 0xEF], .set_5_A)] : List (List Byte × Instr)).all decodesTo = true := by decide

theorem test_decode_cb_Fx : ([
    ([0xCB, 0xF0], .set_6_B), ([0xCB, 0xF1], .set_6_C), ([0xCB, 0xF2], .set_6_D), ([0xCB, 0xF3], .set_6_E),
    ([0xCB, 0xF4], .set_6_H), ([0xCB, 0xF5], .set_6_L), ([0xCB, 0xF6], .set_6_mHL), ([0xCB, 0xF7], .set_6_A),
    ([0xCB, 0xF8], .set_7_B), ([0xCB, 0xF9], .set_7_C), ([0xCB, 0xFA], .set_7_D), ([0xCB, 0xFB], .set_7_E),
    ([0xCB, 0xFC], .set_7_H), ([0xCB, 0xFD], .set_7_L), ([0xCB, 0xFE], .set_7_mHL), ([0xCB, 0xFF], .set_7_A)] : List (List Byte × Instr)).all decodesTo = true := by decide

/-- STOP takes any pad byte (R264); a word that is not complete is rejected by name; no byte, likewise. -/
theorem test_decode_rejects : decode [] = .error .noByte ∧ decode [0xCB] = .error (.truncated 0xCB) ∧
    decode [0xCD, 0x34] = .error (.truncated 0xCD) ∧ decode [0x10, 0xFF] = .ok (.stop 0xFF, []) := by decide

/-- Table words in the table's own numbering (R114). -/
theorem test_table_words : decodeTableWord 16 0xCB7C = some .bit_7_H ∧ decodeTableWord 8 0x76 = some .halt ∧
    decodeTableWord 16 0x5A3E = some (.ld_A_n8 0x5A) ∧ decodeTableWord 24 0x1234CD = some (.call_a16 0x1234) ∧
    decodeTableWord 8 0xD3 = some .illegal_D3 := by decide

/-! ### 8-bit additive (40_additive.md, the examples of R132 to R146) -/

theorem test_add_r8 : after (exec .add_A_B { cpu with a := 0x3C, b := 0x2F })
    (fun t => t.a == 0x6B && flagsAre t 0x20) = true := by decide

theorem test_add_mHL : after (exec .add_A_mHL (atHL { cpu with a := 0x3C } 0x12))
    (fun t => t.a == 0x4E && flagsAre t 0x00 && t.bus == [.read 0xC000 0x12]) = true := by decide

theorem test_add_n8 : after (exec (.add_A_n8 0xFF) { cpu with a := 0x3C })
    (fun t => t.a == 0x3B && flagsAre t 0x30) = true := by decide

theorem test_add_a_a : after (exec .add_A_A { cpu with a := 0x80 })
    (fun t => t.a == 0x00 && flagsAre t 0x90) = true := by decide

theorem test_adc_r8 : after (exec .adc_A_B (withF 0x10 { cpu with a := 0xFF, b := 0x00 }))
    (fun t => t.a == 0x00 && flagsAre t 0xB0) = true := by decide

theorem test_adc_mHL : after (exec .adc_A_mHL (withF 0x10 (atHL { cpu with a := 0xE1 } 0x1E)))
    (fun t => t.a == 0x00 && flagsAre t 0xB0) = true := by decide

theorem test_adc_n8 : after (exec (.adc_A_n8 0x3B) (withF 0x10 { cpu with a := 0xE1 }))
    (fun t => t.a == 0x1D && flagsAre t 0x10) = true := by decide

theorem test_sub_r8 : after (exec .sub_A_B { cpu with a := 0x3E, b := 0x0F })
    (fun t => t.a == 0x2F && flagsAre t 0x60) = true := by decide

theorem test_sub_mHL : after (exec .sub_A_mHL (atHL { cpu with a := 0x3E } 0x40))
    (fun t => t.a == 0xFE && flagsAre t 0x50) = true := by decide

theorem test_sub_n8 : after (exec (.sub_A_n8 0x0F) { cpu with a := 0x3E })
    (fun t => t.a == 0x2F && flagsAre t 0x60) = true := by decide

theorem test_sbc_r8 : after (exec .sbc_A_B (withF 0x10 { cpu with a := 0x3B, b := 0x2A }))
    (fun t => t.a == 0x10 && flagsAre t 0x40) = true := by decide

theorem test_sbc_r8_borrow : after (exec .sbc_A_B (withF 0x10 { cpu with a := 0x00, b := 0xFF }))
    (fun t => t.a == 0x00 && flagsAre t 0xF0) = true := by decide

theorem test_sbc_mHL : after (exec .sbc_A_mHL (withF 0x10 (atHL { cpu with a := 0x3B } 0x4F)))
    (fun t => t.a == 0xEB && flagsAre t 0x70) = true := by decide

theorem test_sbc_n8 : after (exec (.sbc_A_n8 0x3A) (withF 0x10 { cpu with a := 0x3B }))
    (fun t => t.a == 0x00 && flagsAre t 0xC0) = true := by decide

theorem test_cp_r8 : after (exec .cp_A_B { cpu with a := 0x3C, b := 0x2F })
    (fun t => t.a == 0x3C && flagsAre t 0x60) = true := by decide

theorem test_cp_mHL : after (exec .cp_A_mHL (atHL { cpu with a := 0x3C } 0x40))
    (fun t => t.a == 0x3C && flagsAre t 0x50) = true := by decide

theorem test_cp_n8 : after (exec (.cp_A_n8 0x3C) { cpu with a := 0x3C })
    (fun t => t.a == 0x3C && flagsAre t 0xC0) = true := by decide

/-! ### 16-bit additions (41_add16.md, R151 to R154) -/

theorem test_add_hl : after (exec .add_HL_BC (withF 0x80 { cpu with h := 0x8A, l := 0x23, b := 0x06, c := 0x05 }))
    (fun t => t.hl == 0x9028 && flagsAre t 0xA0) = true := by decide

theorem test_add_hl_carry : after (exec .add_HL_DE { cpu with h := 0xF0, d := 0x10 })
    (fun t => t.hl == 0x0000 && flagsAre t 0x10) = true := by decide

theorem test_add_sp : after (exec (.add_SP_e8 0x02) { cpu with sp := 0xFFF8 })
    (fun t => t.sp == 0xFFFA && flagsAre t 0x00) = true := by decide

theorem test_add_sp_negative : after (exec (.add_SP_e8 0xFF) { cpu with sp := 0x0001 })
    (fun t => t.sp == 0x0000 && flagsAre t 0x30) = true := by decide

theorem test_ld_hl_sp : after (exec (.ld_HL_SPe8 0x02) { cpu with sp := 0xFFF8 })
    (fun t => t.hl == 0xFFFA && t.sp == 0xFFF8 && flagsAre t 0x00) = true := by decide

/-! ### Bitwise (42_bitwise.md, R161 to R169) -/

theorem test_and_r8 : after (exec .and_A_B { cpu with a := 0x5A, b := 0x3F })
    (fun t => t.a == 0x1A && flagsAre t 0x20) = true := by decide

theorem test_and_mHL : after (exec .and_A_mHL (atHL { cpu with a := 0x5A } 0x00))
    (fun t => t.a == 0x00 && flagsAre t 0xA0) = true := by decide

theorem test_xor_mHL : after (exec .xor_A_mHL (withF 0xF0 (atHL { cpu with a := 0xFF } 0x8A)))
    (fun t => t.a == 0x75 && flagsAre t 0x00) = true := by decide

theorem test_xor_n8 : after (exec (.xor_A_n8 0x0F) { cpu with a := 0xFF })
    (fun t => t.a == 0xF0 && flagsAre t 0x00) = true := by decide

theorem test_or_r8 : after (exec .or_A_B { cpu with a := 0x5A, b := 0x0F })
    (fun t => t.a == 0x5F && flagsAre t 0x00) = true := by decide

theorem test_or_n8 : after (exec (.or_A_n8 0x03) { cpu with a := 0x5A })
    (fun t => t.a == 0x5B && flagsAre t 0x00) = true := by decide

/-! ### Increment and decrement (43_incdec.md, R175 to R180) -/

theorem test_inc_r8 : after (exec .inc_B (withF 0x10 { cpu with b := 0xFF }))
    (fun t => t.b == 0x00 && flagsAre t 0xB0) = true := by decide

theorem test_inc_mHL : after (exec .inc_mHL (atHL cpu 0x50))
    (fun t => t.peek 0xC000 == 0x51 && flagsAre t 0x00 && t.bus == [.read 0xC000 0x50, .write 0xC000 0x51]) = true := by
  decide

theorem test_dec_r8 : after (exec .dec_B (withF 0x10 { cpu with b := 0x01 }))
    (fun t => t.b == 0x00 && flagsAre t 0xD0) = true := by decide

theorem test_dec_mHL : after (exec .dec_mHL (atHL cpu 0x00))
    (fun t => t.peek 0xC000 == 0xFF && flagsAre t 0x60) = true := by decide

theorem test_inc_r16 : after (exec .inc_DE (withF 0xF0 { cpu with d := 0x23, e := 0x5F }))
    (fun t => t.de == 0x2360 && flagsAre t 0xF0) = true := by decide

theorem test_inc_sp_wraps : after (exec .inc_SP { cpu with sp := 0xFFFF }) (fun t => t.sp == 0x0000) = true := by decide

theorem test_dec_r16 : after (exec .dec_DE { cpu with d := 0x23, e := 0x5F }) (fun t => t.de == 0x235E) = true := by
  decide

theorem test_dec_bc_wraps : after (exec .dec_BC cpu) (fun t => t.bc == 0xFFFF && flagsAre t 0x00) = true := by decide

/-! ### Rotates and shifts (44_rotate_shift.md, R191 to R210) -/

theorem test_rlca : after (exec .rlca { cpu with a := 0x85 }) (fun t => t.a == 0x0B && flagsAre t 0x10) = true := by
  decide

theorem test_rlca_zero : after (exec .rlca cpu) (fun t => t.a == 0x00 && flagsAre t 0x00) = true := by decide

theorem test_rrca : after (exec .rrca { cpu with a := 0x3B }) (fun t => t.a == 0x9D && flagsAre t 0x10) = true := by
  decide

theorem test_rla : after (exec .rla (withF 0x10 { cpu with a := 0x95 }))
    (fun t => t.a == 0x2B && flagsAre t 0x10) = true := by decide

theorem test_rra : after (exec .rra { cpu with a := 0x81 }) (fun t => t.a == 0x40 && flagsAre t 0x10) = true := by
  decide

theorem test_rlc_r8 : after (exec .rlc_B { cpu with b := 0x85 }) (fun t => t.b == 0x0B && flagsAre t 0x10) = true := by
  decide

theorem test_rlc_mHL : after (exec .rlc_mHL (atHL cpu 0x81))
    (fun t => t.peek 0xC000 == 0x03 && flagsAre t 0x10 && t.bus == [.read 0xC000 0x81, .write 0xC000 0x03]) = true := by
  decide

theorem test_rrc_r8 : after (exec .rrc_C { cpu with c := 0x01 }) (fun t => t.c == 0x80 && flagsAre t 0x10) = true := by
  decide

theorem test_rl_r8 : after (exec .rl_L { cpu with l := 0x80 }) (fun t => t.l == 0x00 && flagsAre t 0x90) = true := by
  decide

theorem test_rl_carry : after (exec .rl_L (withF 0x10 { cpu with l := 0x80 }))
    (fun t => t.l == 0x01 && flagsAre t 0x10) = true := by decide

theorem test_rr_mHL : after (exec .rr_mHL (atHL cpu 0x8A))
    (fun t => t.peek 0xC000 == 0x45 && flagsAre t 0x00) = true := by decide

theorem test_rr_carry : after (exec .rr_A (withF 0x10 cpu)) (fun t => t.a == 0x80 && flagsAre t 0x00) = true := by
  decide

theorem test_sla_r8 : after (exec .sla_D { cpu with d := 0x80 }) (fun t => t.d == 0x00 && flagsAre t 0x90) = true := by
  decide

theorem test_sra_r8 : after (exec .sra_A { cpu with a := 0x8A }) (fun t => t.a == 0xC5 && flagsAre t 0x00) = true := by
  decide

theorem test_swap_r8 : after (exec .swap_B (withF 0x10 { cpu with b := 0x12 }))
    (fun t => t.b == 0x21 && flagsAre t 0x00) = true := by decide

theorem test_srl_mHL : after (exec .srl_mHL (atHL cpu 0xFF))
    (fun t => t.peek 0xC000 == 0x7F && flagsAre t 0x10) = true := by decide

/-! ### Single bits (45_bitops.md, R220 to R225) -/

theorem test_bit_r8 : after (exec .bit_7_H (withF 0x50 { cpu with h := 0x80 }))
    (fun t => t.h == 0x80 && flagsAre t 0x30) = true := by decide

theorem test_bit_mHL : after (exec .bit_0_mHL (atHL cpu 0xFE))
    (fun t => flagsAre t 0xA0 && t.bus == [.read 0xC000 0xFE]) = true := by decide

theorem test_res_r8 : after (exec .res_1_L (withF 0xF0 { cpu with l := 0x3B }))
    (fun t => t.l == 0x39 && flagsAre t 0xF0) = true := by decide

theorem test_res_mHL : after (exec .res_3_mHL (atHL cpu 0xFF)) (fun t => t.peek 0xC000 == 0xF7) = true := by decide

theorem test_set_r8 : after (exec .set_3_A { cpu with a := 0x80 }) (fun t => t.a == 0x88 && flagsAre t 0x00) = true := by
  decide

theorem test_set_mHL : after (exec .set_3_mHL (atHL cpu 0x00)) (fun t => t.peek 0xC000 == 0x08) = true := by decide

/-! ### DAA, CPL, SCF, CCF (46_daa_misc.md, the vectors of R230; R231 to R233) -/

/-- A and F before, A and F after, from the table of single-step vectors. -/
theorem test_daa : ([(0x45, 0x00, 0x45, 0x00), (0x9A, 0x00, 0x00, 0x90), (0x7D, 0x00, 0x83, 0x00),
    (0x3C, 0x20, 0x42, 0x00), (0x12, 0x10, 0x72, 0x10), (0x00, 0x30, 0x66, 0x10), (0x4B, 0x60, 0x45, 0x40),
    (0xE6, 0x50, 0x86, 0x50), (0x80, 0x70, 0x1A, 0x50), (0x66, 0x70, 0x00, 0xD0)] : List (Byte × Byte × Byte × Byte)).all
    (fun p => after (exec .daa (withF p.2.1 { cpu with a := p.1 }))
      (fun t => t.a == p.2.2.1 && flagsAre t p.2.2.2)) = true := by decide

theorem test_cpl : after (exec .cpl (withF 0x90 { cpu with a := 0x35 }))
    (fun t => t.a == 0xCA && flagsAre t 0xF0) = true := by decide

theorem test_scf : after (exec .scf (withF 0xE0 cpu)) (fun t => flagsAre t 0x90) = true := by decide

theorem test_ccf : after (exec .ccf (withF 0xF0 cpu)) (fun t => flagsAre t 0x80) = true := by decide

/-! ### Loads (49_loads.md, R270 to R294) -/

theorem test_ld_r8_r8 : after (exec .ld_H_L { cpu with h := 0x12, l := 0x34 }) (fun t => t.hl == 0x3434) = true := by
  decide

theorem test_ld_r8_n8 : after (exec (.ld_L_n8 0x80) cpu) (fun t => t.l == 0x80) = true := by decide

theorem test_ld_r8_mHL : after (exec .ld_H_mHL (atHL cpu 0x99)) (fun t => t.hl == 0x9900) = true := by decide

theorem test_ld_mHL_r8 : after (exec .ld_mHL_H { cpu with h := 0xC0, l := 0xDE })
    (fun t => t.peek 0xC0DE == 0xC0) = true := by decide

theorem test_ld_mHL_n8 : after (exec (.ld_mHL_n8 0x55) (atHL cpu 0x00)) (fun t => t.peek 0xC000 == 0x55) = true := by
  decide

theorem test_ld_a_mBC : after (exec .ld_A_mBC (put { cpu with b := 0xC1, c := 0x23 } 0xC123 [0x2F]))
    (fun t => t.a == 0x2F) = true := by decide

theorem test_ld_mDE_a : after (exec .ld_mDE_A { cpu with d := 0xC2, e := 0x5C, a := 0x01 })
    (fun t => t.peek 0xC25C == 0x01) = true := by decide

theorem test_ld_a_a16 : after (exec (.ld_A_ma16 0xC100) (put cpu 0xC100 [0x77])) (fun t => t.a == 0x77) = true := by
  decide

theorem test_ld_a16_a : after (exec (.ld_ma16_A 0xC100) { cpu with a := 0x88 })
    (fun t => t.peek 0xC100 == 0x88) = true := by decide

theorem test_ldh_a_a8 : after (exec (.ldh_A_ma8 0x34) (put cpu 0xFF34 [0x5F])) (fun t => t.a == 0x5F) = true := by decide

theorem test_ldh_a8_a : after (exec (.ldh_ma8_A 0xFF) { cpu with a := 0x1F })
    (fun t => t.peek 0xFFFF == 0x1F) = true := by decide

theorem test_ldh_a_c : after (exec .ldh_A_mC (put { cpu with c := 0x95 } 0xFF95 [0xA1])) (fun t => t.a == 0xA1) = true := by
  decide

theorem test_ldh_c_a : after (exec .ldh_mC_A { cpu with c := 0x9F, a := 0x5C })
    (fun t => t.peek 0xFF9F == 0x5C) = true := by decide

theorem test_ld_hli_a : after (exec .ld_mHLi_A { cpu with h := 0xC0, l := 0xFF, a := 0x56 })
    (fun t => t.peek 0xC0FF == 0x56 && t.hl == 0xC100) = true := by decide

theorem test_ld_hld_a_wraps : after (exec .ld_mHLd_A { cpu with a := 0x05 })
    (fun t => t.peek 0x0000 == 0x05 && t.hl == 0xFFFF) = true := by decide

theorem test_ld_a_hli : after (exec .ld_A_mHLi (put { cpu with h := 0x01, l := 0xFF } 0x01FF [0x56]))
    (fun t => t.a == 0x56 && t.hl == 0x0200) = true := by decide

theorem test_ld_a_hld : after (exec .ld_A_mHLd (put { cpu with h := 0x8A, l := 0x5C } 0x8A5C [0x3C]))
    (fun t => t.a == 0x3C && t.hl == 0x8A5B) = true := by decide

theorem test_ld_r16_n16 : after (exec (.ld_BC_n16 0x1234) cpu) (fun t => t.b == 0x12 && t.c == 0x34) = true := by decide

theorem test_ld_a16_sp_wraps : after (exec (.ld_ma16_SP 0xFFFF) { cpu with sp := 0x1234 })
    (fun t => t.peek 0xFFFF == 0x34 && t.peek 0x0000 == 0x12) = true := by decide

theorem test_ld_sp_hl : after (exec .ld_SP_HL { cpu with h := 0x3A, l := 0x5B }) (fun t => t.sp == 0x3A5B) = true := by
  decide

theorem test_push_af : after (exec .push_AF (withF 0x90 { cpu with a := 0x12 }))
    (fun t => t.sp == 0xFFFC && t.peek 0xFFFD == 0x12 && t.peek 0xFFFC == 0x90) = true := by decide

theorem test_push_wraps : after (exec .push_BC { cpu with b := 0x12, c := 0x34, sp := 0x0001 })
    (fun t => t.sp == 0xFFFF && t.bus == [.write 0x0000 0x12, .write 0xFFFF 0x34]) = true := by decide

theorem test_pop_bc : after (exec .pop_BC (put { cpu with sp := 0xFFFC } 0xFFFC [0x5F, 0x3C]))
    (fun t => t.bc == 0x3C5F && t.sp == 0xFFFE) = true := by decide

theorem test_pop_af : after (exec .pop_AF (put { cpu with sp := 0xFFFC } 0xFFFC [0xFF, 0x12]))
    (fun t => t.a == 0x12 && flagsAre t 0xF0 && t.sp == 0xFFFE) = true := by decide

/-! ### Control transfer (47_control_flow.md, R241 to R251); PC on entry is past the instruction -/

theorem test_jp : after (exec (.jp_a16 0x8000) { cpu with pc := 0x0103 }) (fun t => t.pc == 0x8000) = true := by decide

theorem test_jp_nz_not_taken : after (exec (.jp_NZ_a16 0x8000) (withF 0x80 { cpu with pc := 0x0103 }))
    (fun t => t.pc == 0x0103 && !t.taken) = true := by decide

theorem test_jp_c_taken : after (exec (.jp_C_a16 0x1234) (withF 0x10 { cpu with pc := 0x0103 }))
    (fun t => t.pc == 0x1234 && t.taken) = true := by decide

theorem test_jp_hl : after (exec .jp_HL { cpu with h := 0x80 }) (fun t => t.pc == 0x8000) = true := by decide

theorem test_jr_back : after (exec (.jr_e8 0x80) { cpu with pc := 0x0102 }) (fun t => t.pc == 0x0082) = true := by decide

theorem test_jr_wraps : after (exec (.jr_e8 0xFD) { cpu with pc := 0x0002 }) (fun t => t.pc == 0xFFFF) = true := by decide

theorem test_jr_nz : after (exec (.jr_NZ_e8 0xFA) { cpu with pc := 0x0102 })
    (fun t => t.pc == 0x00FC && t.taken) = true := by decide

theorem test_call : after (exec (.call_a16 0x1234) { cpu with pc := 0x8003 })
    (fun t => t.pc == 0x1234 && t.sp == 0xFFFC && t.peek 0xFFFD == 0x80 && t.peek 0xFFFC == 0x03) = true := by decide

theorem test_call_nz_not_taken : after (exec (.call_NZ_a16 0x1234) (withF 0x80 { cpu with pc := 0x8003 }))
    (fun t => t.pc == 0x8003 && t.sp == 0xFFFE && t.mem == []) = true := by decide

theorem test_ret : after (exec .ret (put { cpu with sp := 0xFFFC } 0xFFFC [0x03, 0x80]))
    (fun t => t.pc == 0x8003 && t.sp == 0xFFFE && !t.ime) = true := by decide

theorem test_ret_z_not_taken : after (exec .ret_Z (put { cpu with sp := 0xFFFC, pc := 0x1235 } 0xFFFC [0x03, 0x80]))
    (fun t => t.pc == 0x1235 && t.sp == 0xFFFC && t.bus == []) = true := by decide

theorem test_reti : after (exec .reti (put { cpu with sp := 0xFFFC } 0xFFFC [0x03, 0x80]))
    (fun t => t.pc == 0x8003 && t.sp == 0xFFFE && t.ime) = true := by decide

theorem test_rst : after (exec .rst_08 { cpu with pc := 0x8001 })
    (fun t => t.pc == 0x0008 && t.peek 0xFFFD == 0x80 && t.peek 0xFFFC == 0x01) = true := by decide

/-! ### Steps (48_system.md R260 to R266; 60_exceptions.md R300 to R318 and its worked traces) -/

/-- The input of one step that samples the lines `q`. -/
def lines (q : BitVec 5) : List Input := [{ reset := none, pokes := [], irq := q, answers := [] }]

theorem test_step_nop : after (step (put cpu 0x0100 [0x00])) (fun t => t.pc == 0x0101 && t.cost == 1 &&
    t.bus == [.read 0x0100 0x00]) = true := by decide

theorem test_step_call_cost : after (step (put cpu 0x0100 [0xC4, 0x34, 0x12])) (fun t => t.pc == 0x1234 && t.cost == 6) =
    true := by decide

theorem test_step_call_not_taken_cost : after (step (withF 0x80 (put cpu 0x0100 [0xC4, 0x34, 0x12])))
    (fun t => t.pc == 0x0103 && t.cost == 3) = true := by decide

theorem test_step_pc_wraps : after (step (put { cpu with pc := 0xFFFF } 0xFFFF [0x3E, 0x42]))
    (fun t => t.a == 0x42 && t.pc == 0x0001) = true := by decide

theorem test_step_ei : after (step (put cpu 0x0100 [0xFB])) (fun t => !t.ime && t.pendingEnable) = true := by decide

theorem test_step_after_ei : after (step (put { cpu with pendingEnable := true } 0x0100 [0x00]))
    (fun t => t.ime && !t.pendingEnable) = true := by decide

theorem test_step_di_after_ei : after (step (put { cpu with pendingEnable := true } 0x0100 [0xF3]))
    (fun t => !t.ime && !t.pendingEnable) = true := by decide

theorem test_step_halt_sleeps : after (step (put { cpu with ime := true } 0x0100 [0x76]))
    (fun t => t.lowPower && t.pc == 0x0101 && !t.haltBug) = true := by decide

theorem test_step_halt_bug : after (step (put { cpu with inputs := lines 0x01 } 0x0100 [0x76]))
    (fun t => !t.lowPower && t.pc == 0x0101 && t.haltBug) = true := by decide

/-- R99's example: memory 76 3E 14 at 0x0200. -/
theorem test_step_repeats_byte : after (step (put { cpu with pc := 0x0201, haltBug := true } 0x0201 [0x3E, 0x14]))
    (fun t => t.a == 0x3E && t.pc == 0x0202 && !t.haltBug) = true := by decide

/-- With `halt_bug` a 0xCB at PC decodes as CB CB, SET 1,E (R265). -/
theorem test_step_repeats_prefix : after (step (put { cpu with haltBug := true } 0x0100 [0xCB]))
    (fun t => t.e == 0x02 && t.pc == 0x0101) = true := by decide

theorem test_step_stop : after (step (put cpu 0x0100 [0x10, 0xFF])) (fun t => t.lowPower && t.pc == 0x0102) = true := by
  decide

theorem test_step_idle : after (step { cpu with lowPower := true, ime := true })
    (fun t => t.lowPower && t.pc == 0x0100 && t.cost == 1 && t.bus == []) = true := by decide

theorem test_step_wakes : after (step (put { cpu with lowPower := true, inputs := lines 0x01 } 0x0100 [0x3C]))
    (fun t => !t.lowPower && t.a == 0x01 && t.pc == 0x0101) = true := by decide

theorem test_step_cb_d3 : after (step (put cpu 0x0100 [0xCB, 0xD3])) (fun t => t.e == 0x04 && t.pc == 0x0102) = true := by
  decide

/-- Single entries from PC=0x1234, SP=0xD000 (the table of section 5): the lines, the request, PC after. -/
theorem test_step_entry : ([(0b00001, 0, 0x0040), (0b00010, 1, 0x0048), (0b10000, 4, 0x0060), (0b10100, 2, 0x0050),
    (0b11000, 3, 0x0058), (0b11111, 0, 0x0040)] : List (BitVec 5 × Fin 5 × Word)).all (fun p =>
      after (step { cpu with pc := 0x1234, sp := 0xD000, ime := true, inputs := lines p.1 })
        (fun t => t.pc == p.2.2 && t.ack == some p.2.1 && t.sp == 0xCFFE && t.peek 0xCFFF == 0x12 &&
          t.peek 0xCFFE == 0x34 && !t.ime && t.cost == 5)) = true := by decide

theorem test_step_illegal : after (step (put { cpu with a := 0x05 } 0x0100 [0xD3]))
    (fun t => t.fault == some { byte := 0xD3, addr := 0x0100 } && t.a == 0x05 && t.pc == 0x0100 && t.cost == 0) = true := by
  decide

theorem test_step_refused : faults (step
    { cpu with fault := some { byte := 0xD3, addr := 0x0100 }, ime := true, inputs := lines 0x1F }) (.unknownOpcode 0xD3 0x0100) = true := by decide

theorem test_step_entry_before_illegal : after (step (put { cpu with ime := true, inputs := lines 0x01 } 0x0100 [0xD3]))
    (fun t => t.pc == 0x0040 && t.fault == none) = true := by decide

theorem test_step_reset : after (step
    { cpu with
      pc := 0x4321, a := 0x11, lowPower := true, fault := some { byte := 0xD3, addr := 0x0100 },
      inputs := [
        { reset := some { ResetGpr.zero with a := 0x01 }, pokes := [(0xC000, 0x77)], irq := 0, answers := [] }] })
    (fun t => t.pc == 0x0100 && t.sp == 0xFFFE && t.a == 0x01 && t.fault == none && !t.lowPower &&
      t.peek 0xC000 == 0x77) = true := by decide

theorem test_tick : after (tick .clock (put cpu 0x0100 [0xC5])) (fun t => t.cycleDebt == 15 && t.sp == 0xFFFC) = true ∧
    after (tick .machine { cpu with cycleDebt := 5 }) (fun t => t.cycleDebt == 4 && t.pc == 0x0100) = true := by decide

/-- A word placed for the next fetch runs as the first instruction after reset. -/
theorem test_with_fetch_word : after (step (State.reset.withFetchWord 16 0xCBDF)) (fun t => t.a == 0x08) = true ∧
    after (step (State.reset.withFetchWord 16 0xF63E)) (fun t => t.a == 0xF6 && t.pc == 0x0102) = true := by decide

/-! ### The parameter BUS (20_memory.md R61, R81; log entry 4) -/

/-- `s` on a bus with read-only memory below 0x8000, devices at 0xFF00 to 0xFF7F, plain memory elsewhere; the
environment answers the next reads of a device with `vs`. -/
def onBoard (s : State) (vs : List Byte) : State :=
  { s with
    regions := [{ first := 0x0000, last := 0x7FFF, kind := .rom }, { first := 0xFF00, last := 0xFF7F, kind := .device }]
    inputs := [{ reset := none, pokes := [], irq := 0, answers := vs }] }

/-- A write to read-only memory is issued and changes nothing; the instruction itself is fetched from there. -/
theorem test_rom_ignores_write : after (step (onBoard (put { cpu with a := 0x55 } 0x0100 [0xEA, 0x00, 0x20]) []))
    (fun t => t.pc == 0x0103 && t.peek 0x2000 == 0x00 && t.bus.getLast? == some (.write 0x2000 0x55)) = true := by decide

/-- A device answers a read; a write to it reaches no byte of memory. -/
theorem test_device_answers_read : after (step (onBoard (put cpu 0x0100 [0xF0, 0x44]) [0x90]))
    (fun t => t.a == 0x90 && t.held 0xFF44 == 0x00 && t.answers == []) = true := by decide

theorem test_device_takes_write : after (step (onBoard (put { cpu with a := 0x55 } 0x0100 [0xE0, 0x44]) []))
    (fun t => t.held 0xFF44 == 0x00 && t.bus.getLast? == some (.write 0xFF44 0x55)) = true := by decide

/-- Every read takes the next answer: the low byte popped first, then the high byte (R65). -/
theorem test_device_answers_in_order : after (step (onBoard (put { cpu with sp := 0xFF10 } 0x0100 [0xC9]) [0x34, 0x12]))
    (fun t => t.pc == 0x1234 && t.sp == 0xFF12) = true := by decide

/-! ### Memory keeps its canonical form -/

theorem test_memory_canonical : Memory.write (Memory.write [] 5 7) 3 1 = [(3, 1), (5, 7)] ∧
    Memory.write [(3, 1), (5, 7)] 3 0 = [(5, 7)] ∧ Memory.wf [(5, 7), (3, 1)] = false ∧ Memory.wf [(3, 0)] = false := by
  decide

/-! ### Witnesses: for every statement with hypotheses, operands and states that meet them -/

theorem witness_DecodeInvertsEncode : Instr.nop.isPrefix = false ∧ (Instr.call_a16 0xFFFF).isPrefix = false ∧
    Instr.set_7_A.isPrefix = false ∧ Instr.illegal_FD.isPrefix = false := by decide

theorem witness_EncodeInvertsDecode : decode [0x3E, 0xFF, 0x00] = .ok (.ld_A_n8 0xFF, [0x00]) := by decide

theorem witness_FirstByteDecides : decode [0xFA, 0x00, 0xC1] = .ok (.ld_A_ma16 0xC100, []) ∧
    decode [0xCB, 0xFF] = .ok (.set_7_A, []) ∧ decode [0x00] = .ok (.nop, []) ∧
    decode [0xFD, 0x01] = .ok (.illegal_FD, [0x01]) := by decide

theorem witness_ByteReadAfterWrite : Memory.wf (onBoard (atHL cpu 0x12) []).mem = true ∧
    (onBoard cpu []).kindAt 0xC000 = .ram ∧ (onBoard cpu []).kindAt 0x8000 = .ram ∧
    (onBoard cpu []).kindAt 0x7FFF = .rom := by decide

theorem witness_LittleEndianEverywhere : Memory.wf (put cpu 0xFFFF [0x34, 0x12]).mem = true ∧
    cpu.kindAt 0xFFFF = .ram ∧ cpu.kindAt (0xFFFF + 1) = .ram ∧ cpu.kindAt (cpu.sp - 1) = .ram ∧
    cpu.kindAt (cpu.sp - 2) = .ram := by decide

theorem witness_PushThenPop : Memory.wf cpu.mem = true ∧ (0x8000 : Word) ≠ cpu.sp - 1 ∧ (0x8000 : Word) ≠ cpu.sp - 2 ∧
    cpu.kindAt (cpu.sp - 1) = .ram ∧ cpu.kindAt (cpu.sp - 2) = .ram := by decide

theorem witness_CanonicalMemoryIsExtensional : Memory.wf (atHL cpu 0x12).mem = true ∧
    ∀ a : Word, Memory.read (atHL cpu 0x12).mem a.toNat = Memory.read (atHL cpu 0x12).mem a.toNat :=
  ⟨by decide, fun _ => rfl⟩

theorem witness_RotateMembers : RotOp.rlc ∈ ([.rlc, .rrc, .rl, .rr] : List RotOp) ∧
    RotOp.srl ∈ ([.sla, .sra, .swap, .srl] : List RotOp) := by decide

theorem witness_RlcEightTimesRestores : Memory.wf (atHL cpu 0xA5).mem = true ∧
    (atHL cpu 0xA5).kindAt ((atHL cpu 0xA5).h ++ (atHL cpu 0xA5).l) = .ram ∧ 1 ≤ 1 ∧ 1 ≤ 8 ∧ 8 ≤ 8 := by decide

/-- Operands in every form, for each of the four operations. -/
theorem witness_DaaGivesPackedBcd : 99 < 100 ∧ ({ cpu with a := 0x99, b := 0x01 } : State).a = packedBcd 99 ∧
    ∀ op ∈ ([.adc, .add, .sbc, .sub] : List AluOp),
      combinesWith op (packedBcd 1) { cpu with a := 0x99, b := 0x01 } (.alu op (.reg .b)) ∧
      combinesWith op (packedBcd 1) (atHL { cpu with a := 0x99 } 0x01) (.alu op .memHL) ∧
      combinesWith op (packedBcd 1) { cpu with a := 0x99 } (.aluImm op 0x01) :=
  ⟨by decide, by decide, fun _ _ => ⟨.inl ⟨_, by decide, rfl⟩, .inl ⟨_, by decide, rfl⟩, .inr rfl⟩⟩

/-- Each condition holds in one state and fails in another. -/
theorem witness_Conditions : holds .nz cpu.f ∧ holds .nc cpu.f ∧ ¬ holds .z cpu.f ∧ ¬ holds .c cpu.f ∧
    holds .z (withF 0x90 cpu).f ∧ holds .c (withF 0x90 cpu).f ∧ ¬ holds .nz (withF 0x90 cpu).f ∧
    ¬ holds .nc (withF 0x90 cpu).f := by
  simp [holds, cpu, withF, State.reset, State.resetWith, ResetGpr.zero, Flags.ofByte]

theorem witness_SystemInstructions : ({ cpu with ime := true } : State).ime = true ∧ cpu.ime = false ∧ cpu.irq = 0 ∧
    ({ cpu with irq := 0x1F } : State).irq ≠ 0 := by decide

theorem witness_UnknownOpcodeLatches : decodesAtPC (put cpu 0x0100 [0xFD]) ∧
    (ready (put cpu 0x0100 [0xFD])).peek 0x0100 = 0xFD ∧
    ({ cpu with fault := some { byte := 0xD3, addr := 0x0100 } } : State).input.reset = none ∧
    ({ cpu with fault := some { byte := 0xD3, addr := 0x0100 } } : State).cycleDebt = 0 := by
  unfold decodesAtPC
  decide

/-- The bytes at PC decode, awake and also woken by a request with ime clear. -/
theorem witness_StepRunsDecoded : decodesAtPC (put cpu 0x0100 [0x06, 0x42]) ∧
    decodesAtPC (put { cpu with lowPower := true, inputs := lines 0x01 } 0x0100 [0x06, 0x42]) ∧
    (put cpu 0x0100 [0x06, 0x42]).haltBug = false ∧
    decode (bytesRead [0x0100, 0x0101, 0x0102] (ready (put cpu 0x0100 [0x06, 0x42]))) = .ok (.ld_B_n8 0x42, [0x00]) ∧
    (Instr.ld_B_n8 0x42).wf = true := by
  unfold decodesAtPC
  decide

theorem witness_HaltBugRepeatsByte : decodesAtPC (put { cpu with haltBug := true } 0x0100 [0x3E, 0x14]) ∧
    decode (bytesRead [0x0100, 0x0100, 0x0101] (ready (put { cpu with haltBug := true } 0x0100 [0x3E, 0x14]))) =
      .ok (.ld_A_n8 0x3E, [0x14]) ∧
    (Instr.ld_A_n8 0x3E).wf = true := by
  unfold decodesAtPC
  decide

theorem witness_ResetFromAnyState :
    ({ cpu with inputs := [{ reset := some ResetGpr.zero, pokes := [], irq := 0, answers := [] }] } : State).input.reset =
      some ResetGpr.zero := by decide

theorem witness_IdleAndWakeUp : ({ cpu with lowPower := true } : State).input.reset = none ∧ cpu.fault = none ∧
    ({ cpu with lowPower := true } : State).input.irq = 0 ∧
    ({ cpu with lowPower := true, inputs := lines 0x10 } : State).input.irq ≠ 0 := by decide

theorem witness_InterruptEntry :
    ({ cpu with ime := true, inputs := lines 0x10 } : State).input.irq.getLsbD 4 = true ∧
    (∀ j : Nat, j < 4 → ({ cpu with ime := true, inputs := lines 0x10 } : State).input.irq.getLsbD j = false) ∧
    ({ cpu with ime := true, inputs := lines 0x1F } : State).input.irq.getLsbD 0 = true := by decide

/-- With an enable pending and without; the second state of each triple is what the step answers. -/
theorem witness_EnableLatency : decodesAtPC (put { cpu with pendingEnable := true } 0x0100 [0x3C]) ∧
    after (step (put { cpu with pendingEnable := true } 0x0100 [0x3C])) (fun t => t.fault == none) = true ∧
    decodesAtPC (put cpu 0x0100 [0xFB]) ∧ after (step (put cpu 0x0100 [0xFB])) (fun t => t.fault == none) = true := by
  unfold decodesAtPC
  decide

/-- The frames: an instruction, a state and the state `exec` answers. -/
theorem witness_Frames : exec .di { cpu with ime := true } = .next { cpu with ime := false } ∧
    exec .ei cpu = .next { cpu with pendingEnable := true } ∧ exec (.stop 0) cpu = .next { cpu with lowPower := true } ∧
    exec .ld_B_C { cpu with c := 1 } = .next { cpu with b := 1, c := 1 } :=
  ⟨rfl, rfl, rfl, rfl⟩

theorem witness_LeavesFlags : LeavesFlags .nop ∧ LeavesFlags .ld_B_C := ⟨.nop, .ldReg .b (.reg .c)⟩

theorem witness_WritesReg : WritesReg .ld_B_C .b ∧ WritesSP .ret ∧ WritesPC .ret := ⟨.ldReg .b (.reg .c), .ret, .ret⟩

/-- LD (a16),A stores at its address and nowhere else. -/
theorem witness_MemoryFrame : exec (.ld_ma16_A 0xC000) cpu = .next (cpu.store 0xC000 0x00) ∧
    StoresAt (.ld_ma16_A 0xC000) cpu 0xC000 ∧ ¬ StoresAt (.ld_ma16_A 0xC000) cpu 0xC001 := by
  refine ⟨rfl, .ld_ma16_A 0xC000 cpu, fun h => ?_⟩
  generalize hi : Instr.ld_ma16_A 0xC000 = i at h
  generalize ha : (0xC001 : Word) = a at h
  cases h with
  | ldStore r s => cases r <;> cases hi
  | rot op s => cases op <;> cases hi
  | res b s => revert hi; revert b; decide
  | set b s => revert hi; revert b; decide
  | ld_ma16_A a16 s =>
    cases hi
    exact absurd ha (by decide)
  | pushes i s a h =>
    rcases h with ⟨p, rfl⟩ | ⟨y, rfl⟩ | ⟨v, rfl⟩ | ⟨cc, v, rfl, -⟩
    · cases p <;> cases hi
    · revert hi; revert y; decide
    · cases hi
    · cases cc <;> cases hi
  | _ => cases hi

theorem witness_EveryInstructionCompletes : cpu.fault = none ∧
    faults (step { cpu with fault := some { byte := 0xD3, addr := 0x0100 } }) (.unknownOpcode 0xD3 0x0100) = true := by
  decide

theorem witness_InvariantKept : cpu.Inv ∧ after (step cpu) (fun t => t.pc == 0x0101) = true :=
  ⟨⟨rfl, by decide, (by intro u h; cases h), by decide⟩, by decide⟩

theorem witness_BusTraceIsSequential : cpu.input.reset = none ∧
    after (step (put cpu 0x0100 [0xE5])) (fun t => t.bus.length == 3) = true ∧
    (onBoard (put cpu 0x0100 [0xF0, 0x44]) [0x90]).input.reset = none ∧
    after (step (onBoard (put cpu 0x0100 [0xF0, 0x44]) [0x90])) (fun t => t.bus.length == 3) = true := by decide

theorem witness_TickCountsDown : ({ cpu with cycleDebt := 5 } : State).cycleDebt ≤ debtLimit .machine ∧
    cpu.input.reset = none ∧ cpu.cycleDebt = 0 ∧ after (tick .machine cpu) (fun t => t.cycleDebt == 0) = true := by
  decide

theorem witness_CycleCosts : (Instr.prefix_CB 0).wf = false ∧ Instr.illegal_D3.wf = false := by decide

end Sys2Proof.Tests
end

section
/-! SUPPORT. Running a step: the equations of `step` where no reset is asserted. -/

namespace Sys2Proof.Machine

/-- Without a reset and without a latched fault a step is item 1 and on (60_exceptions.md R300, R301). -/
theorem step_of_unlatched {s : State} (hr : s.input.reset = none) (hf : s.fault = none) :
    step s = stepAwake s.beginStep := by
  simp [step, hr, hf]

/-- Without a reset a latched fault stops the step (R301). -/
theorem step_of_latched {s : State} {u : UnknownOpcode} (hr : s.input.reset = none) (hf : s.fault = some u) :
    step s = .fault (.unknownOpcode u.byte u.addr) := by
  simp [step, hr, hf]

end Sys2Proof.Machine
end

section
/-! PROOF of O57. The invariant `State.Accounted` says that the bus trace so far, replayed from where the step began,
explains memory and the answers left. Only `noteRead` and `store` touch the trace, memory or the answers; each of them
keeps the invariant, and every other operation keeps it because it is composed of the two and of updates of other
fields. -/

namespace Sys2Proof.Machine

open Sys2Proof.Statements

/-- A trace is replayed part by part. -/
theorem replay_append (rs : List Region) (m : List Host.Cell) (as : List Byte) (xs ys : List BusAccess) :
    replay rs m as (xs ++ ys) = (replay rs m as xs).bind (fun p => replay rs p.1 p.2 ys) := by
  induction xs generalizing m as with
  | nil => rfl
  | cons x xs ih =>
    cases x with
    | read a v =>
      simp only [List.cons_append, replay]
      split <;> split <;> simp [ih]
    | write a v =>
      simp only [List.cons_append, replay]
      split <;> exact ih _ _

/-- A read of the machine is one that the BUS accounts for (20_memory.md R60, R81). -/
theorem replay_noteRead (s : State) (a : Word) :
    replay s.regions s.mem s.answers [.read a (s.peek a)] = some (s.mem, s.answersAfter a) := by
  have kind : Bus.kindIn s.regions a = s.kindAt a := rfl
  cases h : s.kindAt a <;> simp [replay, State.peek, State.answersAfter, State.held, kind, h]

/-- A write of the machine leaves the memory that the BUS makes of it (20_memory.md R61). -/
theorem replay_store (s : State) (a : Word) (v : Byte) :
    replay s.regions s.mem s.answers [.write a v] = some (s.memAfter a v, s.answers) := by
  have kind : Bus.kindIn s.regions a = s.kindAt a := rfl
  cases h : s.kindAt a <;> simp only [replay, State.memAfter, kind, h]

/-- The bus trace, replayed on the BUS `rs` from the memory `m` and the answers `as`, gives memory and the answers
left; the BUS is still `rs`. -/
def State.Accounted (rs : List Region) (m : List Host.Cell) (as : List Byte) (s : State) : Prop :=
  replay rs m as s.bus = some (s.mem, s.answers) ∧ s.regions = rs

section
variable {rs : List Region} {m : List Host.Cell} {as : List Byte} {s : State}

/-- An access appended to the trace is accounted for when replaying it from here gives the state after it. -/
theorem State.Accounted.snoc {t : State} {x : BusAccess} (h : s.Accounted rs m as) (bus : t.bus = s.bus ++ [x])
    (regions : t.regions = s.regions) (now : replay s.regions s.mem s.answers [x] = some (t.mem, t.answers)) :
    t.Accounted rs m as := by
  obtain ⟨trace, rfl⟩ := h
  exact ⟨by rw [bus, replay_append, trace]; exact now, regions⟩

theorem State.Accounted.noteRead (h : s.Accounted rs m as) (a : Word) : (s.noteRead a).Accounted rs m as :=
  h.snoc rfl rfl (replay_noteRead s a)

theorem State.Accounted.store (h : s.Accounted rs m as) (a : Word) (v : Byte) : (s.store a v).Accounted rs m as :=
  h.snoc rfl rfl (replay_store s a v)

/-! ### The composed operations -/

theorem State.Accounted.noteRead16 (h : s.Accounted rs m as) (a : Word) : (s.noteRead16 a).Accounted rs m as :=
  (h.noteRead a).noteRead (a + 1)

theorem State.Accounted.store16 (h : s.Accounted rs m as) (a v : Word) : (s.store16 a v).Accounted rs m as :=
  (h.store a (lo v)).store (a + 1) (hi v)

theorem State.Accounted.push16 (h : s.Accounted rs m as) (v : Word) : (s.push16 v).Accounted rs m as :=
  (h.store (s.sp - 1) (hi v)).store (s.sp - 2) (lo v)

theorem State.Accounted.popped (h : s.Accounted rs m as) : s.popped.Accounted rs m as :=
  h.noteRead16 s.sp

theorem State.Accounted.returnToCaller (h : s.Accounted rs m as) : s.returnToCaller.Accounted rs m as :=
  h.popped

theorem State.Accounted.call (h : s.Accounted rs m as) (target : Word) : (s.call target).Accounted rs m as :=
  h.push16 s.pc

theorem State.Accounted.setReg (h : s.Accounted rs m as) (r : Reg8) (v : Byte) : (s.setReg r v).Accounted rs m as := by
  cases r <;> exact h

theorem State.Accounted.setPair (h : s.Accounted rs m as) (p : Pair) (v : Word) :
    (s.setPair p v).Accounted rs m as := by
  cases p <;> exact h

theorem State.Accounted.setStackPair (h : s.Accounted rs m as) (p : StackPair) (v : Word) :
    (s.setStackPair p v).Accounted rs m as := by
  cases p <;> exact h

theorem State.Accounted.touch (h : s.Accounted rs m as) (o : Operand8) : (s.touch o).Accounted rs m as := by
  cases o with
  | reg r => exact h
  | memHL => exact h.noteRead s.hl

theorem State.Accounted.put (h : s.Accounted rs m as) (o : Operand8) (v : Byte) : (s.put o v).Accounted rs m as := by
  cases o with
  | reg r => exact h.setReg r v
  | memHL => exact h.store s.hl v

theorem State.Accounted.modify (h : s.Accounted rs m as) (o : Operand8) (v : Byte) (f : Flags) :
    (s.modify o v f).Accounted rs m as :=
  (h.touch o).put o v

theorem State.Accounted.cbEffect (h : s.Accounted rs m as) (op : Byte) : (s.cbEffect op).Accounted rs m as := by
  unfold State.cbEffect
  split
  · exact h.modify _ _ _
  · exact h.touch _
  · exact (h.touch _).put _ _
  · exact (h.touch _).put _ _

/-- A conditional transfer is accounted for when the transfer is. -/
theorem State.Accounted.when (h : s.Accounted rs m as) (cc : Cond) {transfer : State → State}
    (ht : (transfer s).Accounted rs m as) : (s.when cc transfer).Accounted rs m as := by
  cases hc : s.cond cc
  · rw [State.when_neg transfer hc]
    exact h
  · rw [State.when_pos transfer hc]
    exact ht

theorem State.Accounted.noteFetch (h : s.Accounted rs m as) : s.noteFetch.Accounted rs m as := by
  unfold State.noteFetch
  split
  · exact h.noteRead _
  · exact (h.noteRead _).noteRead _
  · exact (h.noteRead _).noteRead16 _

theorem State.Accounted.afterFetch (h : s.Accounted rs m as) : s.afterFetch.Accounted rs m as :=
  h.noteFetch

theorem State.Accounted.complete (h : s.Accounted rs m as) (p0 : Bool) (n : Nat × Nat) :
    (s.complete p0 n).Accounted rs m as := by
  simpa [State.Accounted] using h

theorem State.Accounted.enterInterrupt (h : s.Accounted rs m as) (k : Fin 5) :
    (s.enterInterrupt k).Accounted rs m as :=
  State.Accounted.push16 (s := { s with ime := false, pendingEnable := false, haltBug := false }) h s.pc

theorem State.accounted_beginStep (s : State) :
    s.beginStep.Accounted s.regions (Memory.writeAll s.mem s.input.pokes) s.input.answers :=
  ⟨rfl, rfl⟩

/-! ### Instructions and steps -/

/-- Every instruction answers a next state, whose trace is accounted for when the one before was. -/
theorem exec_accounted (i : Instr) (h : s.Accounted rs m as) : ∃ t, exec i s = .next t ∧ t.Accounted rs m as := by
  cases i using Instr.byForm with
  | inc o => exact ⟨_, exec_inc o s, h.modify o _ _⟩
  | dec o => exact ⟨_, exec_dec o s, h.modify o _ _⟩
  | ldImm o n8 => exact ⟨_, exec_ldImm o n8 s, h.put o n8⟩
  | ldReg r o => exact ⟨_, exec_ldReg r o s, (h.touch o).setReg r _⟩
  | ldStore r => exact ⟨_, exec_ldStore r s, h.store _ _⟩
  | alu op o => exact ⟨_, exec_alu op o s, h.touch o⟩
  | aluImm op n8 => exact ⟨_, exec_aluImm op n8 s, h⟩
  | ldPair p n16 => exact ⟨_, exec_ldPair p n16 s, h.setPair p n16⟩
  | addHL p => exact ⟨_, exec_addHL p s, h⟩
  | incPair p => exact ⟨_, exec_incPair p s, h.setPair p _⟩
  | decPair p => exact ⟨_, exec_decPair p s, h.setPair p _⟩
  | push p => exact ⟨_, exec_push p s, h.push16 _⟩
  | pop p => exact ⟨_, exec_pop p s, h.popped.setStackPair p _⟩
  | jrIf cc e8 => exact ⟨_, exec_jrIf cc e8 s, h.when cc h⟩
  | jpIf cc n16 => exact ⟨_, exec_jpIf cc n16 s, h.when cc h⟩
  | callIf cc n16 => exact ⟨_, exec_callIf cc n16 s, h.when cc (h.call n16)⟩
  | retIf cc => exact ⟨_, exec_retIf cc s, h.when cc h.returnToCaller⟩
  | rst y => exact ⟨_, exec_rst y s, h.call _⟩
  | rot op o => exact ⟨_, exec_rot op o s, h.modify o _ _⟩
  | bit b o => exact ⟨_, exec_bit b o s, h.touch o⟩
  | res b o => exact ⟨_, exec_res b o s, (h.touch o).put o _⟩
  | set b o => exact ⟨_, exec_set b o s, (h.touch o).put o _⟩
  | prefix_CB op => exact ⟨_, rfl, h.cbEffect op⟩
  | ld_ma16_SP n16 => exact ⟨_, rfl, h.store16 n16 s.sp⟩
  | ld_mBC_A | ld_mDE_A | ld_mHLi_A | ld_mHLd_A | ld_ma16_A | ldh_ma8_A | ldh_mC_A => exact ⟨_, rfl, h.store _ s.a⟩
  | ld_A_mBC | ld_A_mDE | ld_A_mHLi | ld_A_mHLd | ld_A_ma16 | ldh_A_ma8 | ldh_A_mC => exact ⟨_, rfl, h.noteRead _⟩
  | call_a16 n16 => exact ⟨_, rfl, h.call n16⟩
  | ret => exact ⟨_, rfl, h.returnToCaller⟩
  | reti => exact ⟨_, rfl, State.Accounted.returnToCaller (s := { s with ime := true }) h⟩
  | halt =>
    refine ⟨_, rfl, ?_⟩
    split <;> exact h
  | _ => exact ⟨_, rfl, h⟩

/-- The same, for a given answer. -/
theorem exec_next_accounted {i : Instr} {t : State} (h : s.Accounted rs m as) (e : exec i s = .next t) :
    t.Accounted rs m as := by
  obtain ⟨u, hu, acc⟩ := exec_accounted i h
  cases hu.symm.trans e
  exact acc

theorem runInstr_accounted {t : State} (h : s.Accounted rs m as) (e : runInstr s = .next t) :
    t.Accounted rs m as := by
  obtain ⟨-, hx⟩ | ⟨-, u, hx, rfl⟩ := runInstr_cases e
  · exact exec_next_accounted (h.noteRead s.pc) hx
  · exact (exec_next_accounted h.afterFetch hx).complete _ _

theorem stepAwake_accounted {t : State} (h : s.Accounted rs m as) (e : stepAwake s = .next t) :
    t.Accounted rs m as := by
  obtain ⟨-, rfl⟩ | ⟨-, k, -, rfl⟩ | ⟨-, -, hx⟩ := stepAwake_cases e
  · exact h
  · exact State.Accounted.enterInterrupt (s := s.wake) h k
  · exact runInstr_accounted (s := s.wake) h hx

end

/-- Settles O57: a step starts with an empty trace, which is accounted for, and all it does keeps that. -/
theorem busTraceIsSequential : Obligations.BusTraceIsSequential := by
  intro s t hr e
  obtain ⟨g, hg, -⟩ | ⟨-, -, hx⟩ := step_cases e
  · exact absurd (hr.symm.trans hg) nofun
  · exact stepAwake_accounted s.accounted_beginStep hx

end Sys2Proof.Machine
end

section
/-! PROOF of O58. The start of a step discards every report of the step before; what is left is the cycle debt, which
every operation carries along: each commutes with replacing the debt. -/

namespace Sys2Proof.Machine

/-- The state with another cycle debt (10_state.md R41). -/
def State.withDebt (d : Nat) (s : State) : State := { s with cycleDebt := d }

section
variable (d : Nat) (s : State)

/-! ### The operand forms -/

@[simp] theorem State.withDebt_getReg (r : Reg8) : (s.withDebt d).getReg r = s.getReg r := by
  cases r <;> rfl

@[simp] theorem State.withDebt_setReg (r : Reg8) (v : Byte) :
    (s.withDebt d).setReg r v = (s.setReg r v).withDebt d := by
  cases r <;> rfl

@[simp] theorem State.withDebt_getPair (p : Pair) : (s.withDebt d).getPair p = s.getPair p := by
  cases p <;> rfl

@[simp] theorem State.withDebt_setPair (p : Pair) (v : Word) :
    (s.withDebt d).setPair p v = (s.setPair p v).withDebt d := by
  cases p <;> rfl

@[simp] theorem State.withDebt_getStackPair (p : StackPair) : (s.withDebt d).getStackPair p = s.getStackPair p := by
  cases p <;> rfl

@[simp] theorem State.withDebt_setStackPair (p : StackPair) (v : Word) :
    (s.withDebt d).setStackPair p v = (s.setStackPair p v).withDebt d := by
  cases p <;> rfl

@[simp] theorem State.withDebt_val (o : Operand8) : (s.withDebt d).val o = s.val o := by
  cases o with
  | reg r => exact s.withDebt_getReg d r
  | memHL => rfl

@[simp] theorem State.withDebt_touch (o : Operand8) : (s.withDebt d).touch o = (s.touch o).withDebt d := by
  cases o <;> rfl

@[simp] theorem State.withDebt_put (o : Operand8) (v : Byte) : (s.withDebt d).put o v = (s.put o v).withDebt d := by
  cases o with
  | reg r => exact s.withDebt_setReg d r v
  | memHL => rfl

@[simp] theorem State.withDebt_cond (cc : Cond) : (s.withDebt d).cond cc = s.cond cc := by
  cases cc <;> rfl

/-! ### The composed operations -/

@[simp] theorem State.withDebt_modify (o : Operand8) (v : Byte) (f : Flags) :
    (s.withDebt d).modify o v f = (s.modify o v f).withDebt d := by
  simp only [State.modify, State.withDebt_touch, State.withDebt_put]
  rfl

theorem State.withDebt_inc (o : Operand8) : (s.withDebt d).inc o = (s.inc o).withDebt d := by
  simp only [State.inc, State.withDebt_val, State.withDebt_modify]
  rfl

theorem State.withDebt_dec (o : Operand8) : (s.withDebt d).dec o = (s.dec o).withDebt d := by
  simp only [State.dec, State.withDebt_val, State.withDebt_modify]
  rfl

theorem State.withDebt_rot (op : RotOp) (o : Operand8) : (s.withDebt d).rot op o = (s.rot op o).withDebt d := by
  simp only [State.rot, State.withDebt_val, State.withDebt_modify]
  rfl

theorem State.withDebt_bit (b : Fin 8) (o : Operand8) : (s.withDebt d).bit b o = (s.bit b o).withDebt d := by
  simp only [State.bit, State.withDebt_val, State.withDebt_touch]
  rfl

theorem State.withDebt_res (b : Fin 8) (o : Operand8) : (s.withDebt d).res b o = (s.res b o).withDebt d := by
  simp only [State.res, State.withDebt_val, State.withDebt_touch, State.withDebt_put]

theorem State.withDebt_set (b : Fin 8) (o : Operand8) : (s.withDebt d).set b o = (s.set b o).withDebt d := by
  simp only [State.set, State.withDebt_val, State.withDebt_touch, State.withDebt_put]

theorem State.withDebt_alu (op : AluOp) (o : Operand8) : (s.withDebt d).alu op o = (s.alu op o).withDebt d := by
  simp only [State.alu, State.withDebt_val, State.withDebt_touch]
  rfl

theorem State.withDebt_loadReg (r : Reg8) (o : Operand8) :
    (s.withDebt d).loadReg r o = (s.loadReg r o).withDebt d := by
  simp only [State.loadReg, State.withDebt_val, State.withDebt_touch, State.withDebt_setReg]

theorem State.withDebt_storeReg (r : Reg8) : (s.withDebt d).storeReg r = (s.storeReg r).withDebt d := by
  simp only [State.storeReg, State.withDebt_getReg]
  rfl

theorem State.withDebt_addHL (p : Pair) : (s.withDebt d).addHL p = (s.addHL p).withDebt d := by
  simp only [State.addHL, State.withDebt_getPair]
  rfl

theorem State.withDebt_incPair (p : Pair) : (s.withDebt d).incPair p = (s.incPair p).withDebt d := by
  simp only [State.incPair, State.withDebt_getPair, State.withDebt_setPair]

theorem State.withDebt_decPair (p : Pair) : (s.withDebt d).decPair p = (s.decPair p).withDebt d := by
  simp only [State.decPair, State.withDebt_getPair, State.withDebt_setPair]

theorem State.withDebt_popPair (p : StackPair) : (s.withDebt d).popPair p = (s.popPair p).withDebt d :=
  State.withDebt_setStackPair d s.popped p s.popVal

/-- A conditional transfer commutes with the debt when the transfer does. -/
theorem State.withDebt_when (cc : Cond) {transfer : State → State}
    (h : transfer (s.withDebt d) = (transfer s).withDebt d) :
    (s.withDebt d).when cc transfer = (s.when cc transfer).withDebt d := by
  simp only [State.when, State.withDebt_cond]
  split
  · exact h
  · rfl

theorem State.withDebt_cbEffect (op : Byte) : (s.withDebt d).cbEffect op = (s.cbEffect op).withDebt d := by
  unfold State.cbEffect
  split
  · exact s.withDebt_rot d _ _
  · exact s.withDebt_bit d _ _
  · exact s.withDebt_res d _ _
  · exact s.withDebt_set d _ _

theorem State.withDebt_noteFetch : (s.withDebt d).noteFetch = s.noteFetch.withDebt d := by
  have opcode : (s.withDebt d).peek (s.withDebt d).pc = s.peek s.pc := rfl
  unfold State.noteFetch
  rw [opcode]
  split <;> rfl

theorem State.withDebt_afterFetch : (s.withDebt d).afterFetch = s.afterFetch.withDebt d := by
  unfold State.afterFetch
  rw [State.withDebt_noteFetch]
  rfl

theorem State.withDebt_promote (p0 : Bool) : (s.withDebt d).promote p0 = (s.promote p0).withDebt d := by
  unfold State.promote
  rw [apply_ite (State.withDebt d)]
  rfl

theorem State.withDebt_complete (p0 : Bool) (n : Nat × Nat) :
    (s.withDebt d).complete p0 n = (s.complete p0 n).withDebt d := by
  unfold State.complete
  rw [State.withDebt_promote]
  rfl

/-! ### Instructions and steps -/

/-- An instruction commutes with the debt when the operation that is its meaning does. -/
theorem exec_withDebt_of {i : Instr} {op : State → State} (meaning : ∀ s, exec i s = .next (op s))
    (h : op (s.withDebt d) = (op s).withDebt d) : exec i (s.withDebt d) = mapNext (State.withDebt d) (exec i s) := by
  rw [meaning, meaning, h]
  rfl

/-- An instruction reads no debt and writes none (70_reset_and_hazards.md R351, R355). -/
theorem exec_withDebt (i : Instr) : exec i (s.withDebt d) = mapNext (State.withDebt d) (exec i s) := by
  cases i using Instr.byForm with
  | inc o => exact exec_withDebt_of d s (exec_inc o) (s.withDebt_inc d o)
  | dec o => exact exec_withDebt_of d s (exec_dec o) (s.withDebt_dec d o)
  | ldImm o n8 => exact exec_withDebt_of d s (exec_ldImm o n8) (s.withDebt_put d o n8)
  | ldReg r o => exact exec_withDebt_of d s (exec_ldReg r o) (s.withDebt_loadReg d r o)
  | ldStore r => exact exec_withDebt_of d s (exec_ldStore r) (s.withDebt_storeReg d r)
  | alu op o => exact exec_withDebt_of d s (exec_alu op o) (s.withDebt_alu d op o)
  | aluImm op n8 => exact exec_withDebt_of d s (exec_aluImm op n8) rfl
  | ldPair p n16 => exact exec_withDebt_of d s (exec_ldPair p n16) (s.withDebt_setPair d p n16)
  | addHL p => exact exec_withDebt_of d s (exec_addHL p) (s.withDebt_addHL d p)
  | incPair p => exact exec_withDebt_of d s (exec_incPair p) (s.withDebt_incPair d p)
  | decPair p => exact exec_withDebt_of d s (exec_decPair p) (s.withDebt_decPair d p)
  | push p => exact exec_withDebt_of d s (exec_push p) (by rw [s.withDebt_getStackPair d p]; rfl)
  | pop p => exact exec_withDebt_of d s (exec_pop p) (s.withDebt_popPair d p)
  | jrIf cc e8 => exact exec_withDebt_of d s (exec_jrIf cc e8) (s.withDebt_when d cc rfl)
  | jpIf cc n16 => exact exec_withDebt_of d s (exec_jpIf cc n16) (s.withDebt_when d cc rfl)
  | callIf cc n16 => exact exec_withDebt_of d s (exec_callIf cc n16) (s.withDebt_when d cc rfl)
  | retIf cc => exact exec_withDebt_of d s (exec_retIf cc) (s.withDebt_when d cc rfl)
  | rst y => exact exec_withDebt_of d s (exec_rst y) rfl
  | rot op o => exact exec_withDebt_of d s (exec_rot op o) (s.withDebt_rot d op o)
  | bit b o => exact exec_withDebt_of d s (exec_bit b o) (s.withDebt_bit d b o)
  | res b o => exact exec_withDebt_of d s (exec_res b o) (s.withDebt_res d b o)
  | set b o => exact exec_withDebt_of d s (exec_set b o) (s.withDebt_set d b o)
  | prefix_CB op => exact exec_withDebt_of d s (fun _ => rfl) (s.withDebt_cbEffect d op)
  | halt => exact exec_withDebt_of d s (fun _ => rfl) (by rw [apply_ite (State.withDebt d)]; rfl)
  | _ => rfl

/-- Updates of an outcome that commute may change places. -/
theorem mapNext_mapNext_comm {f g : State → State} (h : ∀ t, f (g t) = g (f t)) (r : Result) :
    mapNext f (mapNext g r) = mapNext g (mapNext f r) := by
  cases r with
  | next t => exact congrArg _ (h t)
  | fault u => rfl
  | refused u => rfl

/-- The bytes fetched do not depend on the debt, so the instruction is the same one. -/
theorem runInstr_withDebt : runInstr (s.withDebt d) = mapNext (State.withDebt d) (runInstr s) := by
  have fetched : (s.withDebt d).fetched = s.fetched := rfl
  unfold runInstr
  rw [fetched]
  split
  · exact exec_withDebt d (s.noteRead s.pc) s.fetched
  · rw [State.withDebt_afterFetch, exec_withDebt]
    exact mapNext_mapNext_comm (fun t => t.withDebt_complete d _ _) _

/-- Neither sleeping nor the acceptance of a request depends on the debt. -/
theorem stepAwake_withDebt : stepAwake (s.withDebt d) = mapNext (State.withDebt d) (stepAwake s) := by
  have asleep : (s.withDebt d).asleep = s.asleep := rfl
  have accepted : (s.withDebt d).wake.accepted = s.wake.accepted := rfl
  unfold stepAwake
  rw [asleep, accepted]
  split
  · rfl
  · split
    · rfl
    · exact runInstr_withDebt d s.wake

end

/-- Settles O58: what the start of the step leaves differs in the debt alone, and the step carries that along. -/
theorem stepIgnoresDebtAndReports : Obligations.StepIgnoresDebtAndReports := by
  intro s d c b k x q as hr
  obtain hf | ⟨u, hf⟩ := Option.eq_none_or_eq_some s.fault
  · rw [step_of_unlatched hr hf, step_of_unlatched]
    · exact stepAwake_withDebt d s.beginStep
    · exact hr
    · exact hf
  · rw [step_of_latched hr hf]
    exact step_of_latched hr hf

end Sys2Proof.Machine
end

section
/-! SUPPORT. A conditional transfer leaves alone what the transfer leaves alone (47_control_flow.md R240). -/

namespace Sys2Proof.Machine

/-- Whatever is read off the state by `get` stays over a conditional transfer when it stays over the transfer and does
not depend on the report that none was taken. -/
theorem State.when_keeps {α : Type} (s : State) (cc : Cond) {transfer : State → State} (get : State → α)
    (taken : get (transfer s) = get s) (notTaken : get { s with taken := false } = get s) :
    get (s.when cc transfer) = get s := by
  unfold State.when
  split
  · exact taken
  · exact notTaken

end Sys2Proof.Machine
end

section
/-! PROOF of O6, O7 and O56: the register file and the pair views (10_state.md R21, R23), the F byte (R22, R27), and
the reset state (R45). -/

namespace Sys2Proof.Machine

/-! ### Words and their halves -/

theorem join_hi_lo (v : Word) : join (hi v) (lo v) = v :=
  BitVec.extractLsb'_append_extractLsb'

/-- Masking a word masks its halves. -/
theorem join_and_join (u v x y : Byte) : join u v &&& join x y = join (u &&& x) (v &&& y) :=
  BitVec.and_append

/-- A byte read back from F has lost its low nibble (R22, D6). -/
theorem Flags.toByte_ofByte (v : Byte) : (Flags.ofByte v).toByte = v &&& 0xF0 := by
  refine BitVec.eq_of_getLsbD_eq fun i hi => ?_
  simp only [Flags.toByte, Flags.ofByte, BitVec.getLsbD_append, BitVec.getLsbD_and]
  interval_cases i <;> simp

/-! ### Reading back what was written -/

section
variable (s : State)

theorem State.getReg_setReg (r q : Reg8) (v : Byte) :
    (s.setReg r v).getReg q = if q = r then v else s.getReg q := by
  cases r <;> cases q <;> rfl

theorem State.getPair_setPair (p : Pair) (v : Word) : (s.setPair p v).getPair p = v := by
  cases p with
  | sp => rfl
  | bc | de | hl => exact join_hi_lo v

theorem State.af_setAF (v : Word) : (s.setAF v).af = v &&& 0xFFF0 :=
  calc (s.setAF v).af
    _ = join (hi v) (lo v &&& 0xF0) := congrArg (join (hi v)) (Flags.toByte_ofByte (lo v))
    _ = join (hi v &&& 0xFF) (lo v &&& 0xF0) := by rw [show hi v &&& 0xFF = hi v from BitVec.and_allOnes]
    _ = join (hi v) (lo v) &&& join 0xFF 0xF0 := (join_and_join _ _ _ _).symm
    _ = v &&& 0xFFF0 := congrArg (· &&& 0xFFF0) (join_hi_lo v)

theorem State.getStackPair_setStackPair (p : StackPair) (v : Word) :
    (s.setStackPair p v).getStackPair p = if p = .af then v &&& 0xFFF0 else v := by
  cases p with
  | af => exact s.af_setAF v
  | bc | de | hl => exact join_hi_lo v

end

/-- Settles O6: each half of a pair is a register, and a word is its two halves. -/
theorem registerFileAndPairViews : Obligations.RegisterFileAndPairViews :=
  ⟨State.getReg_setReg, fun s p v => ⟨s.getPair_setPair p v, s.setPair_f p v⟩, State.getStackPair_setStackPair,
    fun _ => ⟨rfl, rfl, rfl, rfl⟩⟩

/-- Settles O7, by evaluating the sixteen combinations. -/
theorem flagsByteRoundTrip : Obligations.FlagsByteRoundTrip := by
  unfold Obligations.FlagsByteRoundTrip
  decide

/-- Settles O56: nothing is listed in memory, and the core is awake, without a fault and without a cost. -/
theorem invariantAtReset : Obligations.InvariantAtReset where
  mem_wf := Memory.wf_reset
  sleep_without_bug := nofun
  latch_sound := nofun
  cost_le := Nat.zero_le 6

end Sys2Proof.Machine
end

section
/-! PROOF of O50. `State.control` gathers the control state, and `ControlAfter` lists what an instruction can make of
it: every operation over registers, memory and the stack keeps it, so only the system instructions, RETI and the
ILLEGAL rows have a line of their own. -/

namespace Sys2Proof.Machine

/-- The control state: the hidden bits of the core (10_state.md R30 to R32, R40 to R42), what the environment fixed or
sampled for the step, and the two reports that only the driver writes. -/
structure Control where
  ime : Bool
  pendingEnable : Bool
  lowPower : Bool
  haltBug : Bool
  fault : Option UnknownOpcode
  cycleDebt : Nat
  regions : List Region
  irq : BitVec 5
  inputs : List Input
  ack : Option (Fin 5)
  cost : Nat

def State.control (s : State) : Control :=
  { ime := s.ime, pendingEnable := s.pendingEnable, lowPower := s.lowPower, haltBug := s.haltBug, fault := s.fault,
    cycleDebt := s.cycleDebt, regions := s.regions, irq := s.irq, inputs := s.inputs, ack := s.ack, cost := s.cost }

section
variable (s : State)

/-! ### Operations that keep the control state -/

theorem State.control_setReg (r : Reg8) (v : Byte) : (s.setReg r v).control = s.control := by
  cases r <;> rfl

theorem State.control_setPair (p : Pair) (v : Word) : (s.setPair p v).control = s.control := by
  simp [State.control]

theorem State.control_setStackPair (p : StackPair) (v : Word) : (s.setStackPair p v).control = s.control := by
  simp [State.control]

theorem State.control_touch (o : Operand8) : (s.touch o).control = s.control := by
  simp [State.control]

theorem State.control_put (o : Operand8) (v : Byte) : (s.put o v).control = s.control := by
  simp [State.control]

/-- The operand read and written in place. -/
theorem State.control_touch_put (o : Operand8) (v : Byte) : ((s.touch o).put o v).control = s.control :=
  ((s.touch o).control_put o v).trans (s.control_touch o)

theorem State.control_cbEffect (op : Byte) : (s.cbEffect op).control = s.control := by
  unfold State.cbEffect
  split
  · exact s.control_touch_put _ _
  · exact s.control_touch _
  · exact s.control_touch_put _ _
  · exact s.control_touch_put _ _

theorem State.control_call (target : Word) : (s.call target).control = s.control := by
  simp [State.control, State.call, State.jump]

theorem State.control_returnToCaller : s.returnToCaller.control = s.control := by
  simp [State.control, State.returnToCaller]

end

/-! ### What an instruction makes of it -/

/-- What the instruction may leave as the control state `c` from the state `s`. -/
inductive ControlAfter (s : State) (c : Control) : Instr → Prop
  | kept {i} (h : c = s.control) : ControlAfter s c i
  | di (h : c = { s.control with ime := false, pendingEnable := false }) : ControlAfter s c .di
  | ei (h : c = { s.control with pendingEnable := true }) : ControlAfter s c .ei
  | reti (h : c = { s.control with ime := true }) : ControlAfter s c .reti
  | halt (h : c = if s.ime || s.irq == 0 then { s.control with lowPower := true }
      else { s.control with haltBug := true }) : ControlAfter s c .halt
  | stop {pad} (h : c = { s.control with lowPower := true }) : ControlAfter s c (.stop pad)
  | illegal {i} (hi : i.isIllegal = true) (byte : Byte)
      (h : c = { s.control with fault := some { byte := byte, addr := s.pc } }) : ControlAfter s c i

/-- Every instruction answers a next state, whose control state is one that `ControlAfter` lists. -/
theorem exec_controlAfter (i : Instr) (s : State) : ∃ t, exec i s = .next t ∧ ControlAfter s t.control i := by
  cases i using Instr.byForm with
  | inc o => exact ⟨_, exec_inc o s, .kept (s.control_touch_put o _)⟩
  | dec o => exact ⟨_, exec_dec o s, .kept (s.control_touch_put o _)⟩
  | ldImm o n8 => exact ⟨_, exec_ldImm o n8 s, .kept (s.control_put o n8)⟩
  | ldReg r o => exact ⟨_, exec_ldReg r o s, .kept (((s.touch o).control_setReg r _).trans (s.control_touch o))⟩
  | ldStore r => exact ⟨_, exec_ldStore r s, .kept rfl⟩
  | alu op o => exact ⟨_, exec_alu op o s, .kept (s.control_touch o)⟩
  | aluImm op n8 => exact ⟨_, exec_aluImm op n8 s, .kept rfl⟩
  | ldPair p n16 => exact ⟨_, exec_ldPair p n16 s, .kept (s.control_setPair p n16)⟩
  | addHL p => exact ⟨_, exec_addHL p s, .kept rfl⟩
  | incPair p => exact ⟨_, exec_incPair p s, .kept (s.control_setPair p _)⟩
  | decPair p => exact ⟨_, exec_decPair p s, .kept (s.control_setPair p _)⟩
  | push p => exact ⟨_, exec_push p s, .kept rfl⟩
  | pop p => exact ⟨_, exec_pop p s, .kept (s.popped.control_setStackPair p _)⟩
  | jrIf cc e8 => exact ⟨_, exec_jrIf cc e8 s, .kept (s.when_keeps cc State.control rfl rfl)⟩
  | jpIf cc n16 => exact ⟨_, exec_jpIf cc n16 s, .kept (s.when_keeps cc State.control rfl rfl)⟩
  | callIf cc n16 => exact ⟨_, exec_callIf cc n16 s, .kept (s.when_keeps cc State.control (s.control_call n16) rfl)⟩
  | retIf cc => exact ⟨_, exec_retIf cc s, .kept (s.when_keeps cc State.control s.control_returnToCaller rfl)⟩
  | rst y => exact ⟨_, exec_rst y s, .kept (s.control_call _)⟩
  | rot op o => exact ⟨_, exec_rot op o s, .kept (s.control_touch_put o _)⟩
  | bit b o => exact ⟨_, exec_bit b o s, .kept (s.control_touch o)⟩
  | res b o => exact ⟨_, exec_res b o s, .kept (s.control_touch_put o _)⟩
  | set b o => exact ⟨_, exec_set b o s, .kept (s.control_touch_put o _)⟩
  | prefix_CB op => exact ⟨_, rfl, .kept (s.control_cbEffect op)⟩
  | call_a16 n16 => exact ⟨_, rfl, .kept (s.control_call n16)⟩
  | ret => exact ⟨_, rfl, .kept s.control_returnToCaller⟩
  | di => exact ⟨_, rfl, .di rfl⟩
  | ei => exact ⟨_, rfl, .ei rfl⟩
  | reti => exact ⟨_, rfl, .reti (State.control_returnToCaller { s with ime := true })⟩
  | halt => exact ⟨_, rfl, .halt (apply_ite State.control _ _ _)⟩
  | stop pad => exact ⟨_, rfl, .stop rfl⟩
  | illegal_D3 | illegal_DB | illegal_DD | illegal_E3 | illegal_E4 | illegal_EB | illegal_EC | illegal_ED
  | illegal_F4 | illegal_FC | illegal_FD => exact ⟨_, rfl, .illegal rfl _ rfl⟩
  | _ => exact ⟨_, rfl, .kept rfl⟩

/-- The same, for a given answer. -/
theorem exec_next_controlAfter {i : Instr} {s t : State} (e : exec i s = .next t) : ControlAfter s t.control i := by
  obtain ⟨u, hu, after⟩ := exec_controlAfter i s
  cases hu.symm.trans e
  exact after

/-- Each field of the control state that may differ, by the instructions that write it. -/
theorem ControlAfter.frame {s : State} {c : Control} {i : Instr} (h : ControlAfter s c i) :
    (c.ime ≠ s.ime → i = .di ∨ i = .reti) ∧
    (c.pendingEnable ≠ s.pendingEnable → i = .di ∨ i = .ei) ∧
    (c.lowPower ≠ s.lowPower → i = .halt ∨ ∃ pad, i = .stop pad) ∧
    (c.haltBug ≠ s.haltBug → i = .halt) ∧
    (c.fault ≠ s.fault → i.isIllegal = true) ∧
    c.cycleDebt = s.cycleDebt ∧ c.regions = s.regions ∧ c.irq = s.irq ∧ c.inputs = s.inputs ∧ c.ack = s.ack ∧
    c.cost = s.cost := by
  cases h with
  | halt h =>
    subst h
    split <;> simp [State.control]
  | kept h | di h | ei h | reti h | stop h =>
    subst h
    simp [State.control]
  | illegal hi byte h =>
    subst h
    simp [State.control, hi]

/-- Settles O50: the frame read off from the list of what an instruction can do. -/
theorem controlStateFrame : Obligations.ControlStateFrame :=
  fun _ _ _ e => (exec_next_controlAfter e).frame

end Sys2Proof.Machine
end

section
/-! PROOF of O52. For each operation that writes registers, which registers it can change; every other operation leaves
the general registers alone. A case per form of instruction then compares that with what its rule names. -/

namespace Sys2Proof.Machine

open Sys2Proof.Statements

section
variable (s : State)

/-! ### Which register an operation can change -/

theorem State.getReg_setReg_or (r q : Reg8) (v : Byte) : (s.setReg r v).getReg q = s.getReg q ∨ q = r := by
  rw [State.getReg_setReg]
  split
  · exact .inr ‹_›
  · exact .inl rfl

theorem State.getReg_touch (o : Operand8) (q : Reg8) : (s.touch o).getReg q = s.getReg q := by
  cases o <;> rfl

theorem State.getReg_put_or (o : Operand8) (v : Byte) (q : Reg8) :
    (s.put o v).getReg q = s.getReg q ∨ o = .reg q := by
  cases o with
  | reg r => exact (s.getReg_setReg_or r q v).imp_right (congrArg Operand8.reg ·.symm)
  | memHL => exact .inl rfl

/-- The operand read and written in place. -/
theorem State.getReg_touch_put_or (o : Operand8) (v : Byte) (q : Reg8) :
    ((s.touch o).put o v).getReg q = s.getReg q ∨ o = .reg q :=
  s.getReg_touch o q ▸ (s.touch o).getReg_put_or o v q

theorem State.getReg_setBC_or (v : Word) (q : Reg8) : (s.setBC v).getReg q = s.getReg q ∨ q = .b ∨ q = .c := by
  cases q <;> simp [State.getReg]

theorem State.getReg_setDE_or (v : Word) (q : Reg8) : (s.setDE v).getReg q = s.getReg q ∨ q = .d ∨ q = .e := by
  cases q <;> simp [State.getReg]

theorem State.getReg_setHL_or (v : Word) (q : Reg8) : (s.setHL v).getReg q = s.getReg q ∨ q = .h ∨ q = .l := by
  cases q <;> simp [State.getReg]

/-- LD r16,n16, INC r16 and DEC r16 name both halves of the pair they write (R289, R179, R180). -/
theorem State.getReg_setPair_or {i : Instr} {p : Pair}
    (hi : (∃ n16, i = .ldPair p n16) ∨ i = .incPair p ∨ i = .decPair p)
    (v : Word) (q : Reg8) : (s.setPair p v).getReg q = s.getReg q ∨ WritesReg i q := by
  cases p with
  | bc => exact (s.getReg_setBC_or v q).imp_right (.bc i q (by tauto))
  | de => exact (s.getReg_setDE_or v q).imp_right (.de i q (by tauto))
  | hl => exact (s.getReg_setHL_or v q).imp_right (.hl i q (by tauto))
  | sp => exact .inl rfl

/-- POP names both halves of its pair, of which F is not a general register (R293, R294). -/
theorem State.getReg_setStackPair_or (p : StackPair) (v : Word) (q : Reg8) :
    (s.setStackPair p v).getReg q = s.getReg q ∨ WritesReg (.pop p) q := by
  cases p with
  | bc => exact (s.getReg_setBC_or v q).imp_right (.bc _ q (by simp))
  | de => exact (s.getReg_setDE_or v q).imp_right (.de _ q (by simp))
  | hl => exact (s.getReg_setHL_or v q).imp_right (.hl _ q (by simp))
  | af => exact (s.getReg_setReg_or .a q (hi v)).imp_right (by rintro rfl; exact .pop_AF)

theorem State.getReg_rot_or (op : RotOp) (o : Operand8) (q : Reg8) :
    (s.rot op o).getReg q = s.getReg q ∨ WritesReg (.rot op o) q :=
  (s.getReg_touch_put_or o _ q).imp_right (by rintro rfl; exact .rot op q)

theorem State.getReg_res_or (b : Fin 8) (o : Operand8) (q : Reg8) :
    (s.res b o).getReg q = s.getReg q ∨ WritesReg (.res b o) q :=
  (s.getReg_touch_put_or o _ q).imp_right (by rintro rfl; exact .res b q)

theorem State.getReg_set_or (b : Fin 8) (o : Operand8) (q : Reg8) :
    (s.set b o).getReg q = s.getReg q ∨ WritesReg (.set b o) q :=
  (s.getReg_touch_put_or o _ q).imp_right (by rintro rfl; exact .set b q)

theorem State.getReg_cbEffect_or (op : Byte) (q : Reg8) :
    (s.cbEffect op).getReg q = s.getReg q ∨ WritesReg (cbRow op) q := by
  unfold State.cbEffect cbRow
  generalize fieldX op = x
  match x with
  | 0 => exact s.getReg_rot_or _ _ q
  | 1 => exact .inl (s.getReg_touch _ q)
  | 2 => exact s.getReg_res_or _ _ q
  | _ + 3 => exact s.getReg_set_or _ _ q

/-- CP computes flags only (R144); every other operation writes A. -/
theorem State.getReg_aluWith_or (op : AluOp) (v : Byte) (q : Reg8) :
    (s.aluWith op v).getReg q = s.getReg q ∨ op ≠ .cp ∧ q = .a := by
  cases op with
  | cp => exact .inl rfl
  | add | adc | sub | sbc | and | xor | or => exact (s.getReg_setReg_or .a q _).imp_right (⟨nofun, ·⟩)

theorem State.getReg_loadA_or (addr : Word) (q : Reg8) : (s.loadA addr).getReg q = s.getReg q ∨ q = .a :=
  (s.noteRead addr).getReg_setReg_or .a q _

/-- LD A,(HL+) and LD A,(HL-): A, and then both halves of HL (R287, R288). -/
theorem State.getReg_loadA_setHL_or (addr v : Word) (q : Reg8) :
    ((s.loadA addr).setHL v).getReg q = s.getReg q ∨ q = .a ∨ q = .h ∨ q = .l := by
  cases q <;> simp [State.getReg, State.loadA]

theorem State.getReg_call (target : Word) (q : Reg8) : (s.call target).getReg q = s.getReg q := by
  cases q <;> rfl

theorem State.getReg_returnToCaller (q : Reg8) : s.returnToCaller.getReg q = s.getReg q := by
  cases q <;> rfl

/-! ### SP and PC -/

theorem State.setPair_sp_or (p : Pair) (v : Word) : (s.setPair p v).sp = s.sp ∨ p = .sp := by
  cases p <;> simp [State.setPair]

theorem State.cbEffect_sp (op : Byte) : (s.cbEffect op).sp = s.sp := by
  unfold State.cbEffect
  split <;> simp [State.rot, State.modify, State.bit, State.res, State.set]

theorem State.cbEffect_pc (op : Byte) : (s.cbEffect op).pc = s.pc := by
  unfold State.cbEffect
  split <;> simp [State.rot, State.modify, State.bit, State.res, State.set]

end

/-! ### Instructions -/

/-- From `s` to `t`, a general register, SP or PC differs only where the rule of `i` names it. -/
structure RegistersAfter (i : Instr) (s t : State) : Prop where
  reg : ∀ q : Reg8, t.getReg q = s.getReg q ∨ WritesReg i q
  sp : t.sp = s.sp ∨ WritesSP i
  pc : t.pc = s.pc ∨ WritesPC i

section
variable {i : Instr} {s t : State}

/-- The operand read and written in place, F aside: SP and PC stay. -/
theorem RegistersAfter.of_modify {o : Operand8} {v : Byte} {f : Flags} (h : ∀ q, o = .reg q → WritesReg i q) :
    RegistersAfter i s (s.modify o v f) where
  reg q := (s.getReg_touch_put_or o v q).imp_right (h q)
  sp := .inl (by simp [State.modify])
  pc := .inl (by simp [State.modify])

/-- An instruction that changes A at most. -/
theorem RegistersAfter.of_a (writes : WritesReg i .a) (reg : ∀ q : Reg8, t.getReg q = s.getReg q ∨ q = .a)
    (sp : t.sp = s.sp) (pc : t.pc = s.pc) : RegistersAfter i s t where
  reg q := (reg q).imp_right (by rintro rfl; exact writes)
  sp := .inl sp
  pc := .inl pc

/-- A load of A from memory (R275, R276, R279, R281, R283). -/
theorem RegistersAfter.of_loadA (addr : Word) (writes : WritesReg i .a) : RegistersAfter i s (s.loadA addr) :=
  .of_a writes (s.getReg_loadA_or addr) rfl rfl

theorem RegistersAfter.of_rotA (op : RotOp) (writes : WritesReg i .a) : RegistersAfter i s (s.rotA op) :=
  .of_a writes (fun q => s.getReg_setReg_or .a q _) rfl rfl

end

/-- Every instruction answers a next state with the registers its rule names changed at most. -/
theorem exec_registersAfter (i : Instr) (s : State) : ∃ t, exec i s = .next t ∧ RegistersAfter i s t := by
  cases i using Instr.byForm with
  | inc o => exact ⟨_, exec_inc o s, .of_modify (by rintro q rfl; exact .inc q)⟩
  | dec o => exact ⟨_, exec_dec o s, .of_modify (by rintro q rfl; exact .dec q)⟩
  | ldImm o n8 =>
    exact ⟨_, exec_ldImm o n8 s, fun q => (s.getReg_put_or o n8 q).imp_right (by rintro rfl; exact .ldImm q n8),
      .inl (s.put_sp o n8), .inl (s.put_pc o n8)⟩
  | ldReg r o =>
    refine ⟨_, exec_ldReg r o s, fun q => ?_, .inl ?_, .inl ?_⟩
    · exact s.getReg_touch o q ▸ ((s.touch o).getReg_setReg_or r q _).imp_right (by rintro rfl; exact .ldReg q o)
    · exact ((s.touch o).put_sp (.reg r) _).trans (s.touch_sp o)
    · exact ((s.touch o).put_pc (.reg r) _).trans (s.touch_pc o)
  | ldStore r => exact ⟨_, exec_ldStore r s, fun _ => .inl rfl, .inl rfl, .inl rfl⟩
  | alu op o =>
    refine ⟨_, exec_alu op o s, fun q => ?_, .inl (s.touch_sp o), .inl (s.touch_pc o)⟩
    exact s.getReg_touch o q ▸ ((s.touch o).getReg_aluWith_or op _ q).imp_right
      (by rintro ⟨h, rfl⟩; exact .alu op o h)
  | aluImm op n8 =>
    exact ⟨_, exec_aluImm op n8 s,
      fun q => (s.getReg_aluWith_or op n8 q).imp_right (by rintro ⟨h, rfl⟩; exact .aluImm op n8 h),
      .inl rfl, .inl rfl⟩
  | ldPair p n16 =>
    exact ⟨_, exec_ldPair p n16 s, s.getReg_setPair_or (.inl ⟨n16, rfl⟩) n16,
      (s.setPair_sp_or p n16).imp_right (by rintro rfl; exact .ldPair n16), .inl (s.setPair_pc p n16)⟩
  | incPair p =>
    exact ⟨_, exec_incPair p s, s.getReg_setPair_or (.inr (.inl rfl)) _,
      (s.setPair_sp_or p _).imp_right (by rintro rfl; exact .incPair), .inl (s.setPair_pc p _)⟩
  | decPair p =>
    exact ⟨_, exec_decPair p s, s.getReg_setPair_or (.inr (.inr rfl)) _,
      (s.setPair_sp_or p _).imp_right (by rintro rfl; exact .decPair), .inl (s.setPair_pc p _)⟩
  | addHL p =>
    exact ⟨_, exec_addHL p s, fun q => (s.getReg_setHL_or _ q).imp_right (.addHL p q), .inl rfl, .inl rfl⟩
  | push p => exact ⟨_, exec_push p s, fun _ => .inl rfl, .inr (.push p), .inl rfl⟩
  | pop p =>
    exact ⟨_, exec_pop p s, s.popped.getReg_setStackPair_or p _, .inr (.pop p),
      .inl (s.popped.setStackPair_pc p _)⟩
  | jrIf cc e8 =>
    exact ⟨_, exec_jrIf cc e8 s, fun q => .inl (s.when_keeps cc (·.getReg q) rfl rfl),
      .inl (s.when_keeps cc State.sp rfl rfl), .inr (.jrIf cc e8)⟩
  | jpIf cc n16 =>
    exact ⟨_, exec_jpIf cc n16 s, fun q => .inl (s.when_keeps cc (·.getReg q) rfl rfl),
      .inl (s.when_keeps cc State.sp rfl rfl), .inr (.jpIf cc n16)⟩
  | callIf cc n16 =>
    exact ⟨_, exec_callIf cc n16 s, fun q => .inl (s.when_keeps cc (·.getReg q) (s.getReg_call n16 q) rfl),
      .inr (.callIf cc n16), .inr (.callIf cc n16)⟩
  | retIf cc =>
    exact ⟨_, exec_retIf cc s, fun q => .inl (s.when_keeps cc (·.getReg q) (s.getReg_returnToCaller q) rfl),
      .inr (.retIf cc), .inr (.retIf cc)⟩
  | rst y => exact ⟨_, exec_rst y s, fun q => .inl (s.getReg_call _ q), .inr (.rst y), .inr (.rst y)⟩
  | rot op o => exact ⟨_, exec_rot op o s, .of_modify (by rintro q rfl; exact .rot op q)⟩
  | bit b o =>
    exact ⟨_, exec_bit b o s, fun q => .inl (s.getReg_touch o q), .inl (s.touch_sp o), .inl (s.touch_pc o)⟩
  | res b o =>
    exact ⟨_, exec_res b o s, s.getReg_res_or b o, .inl (by simp [State.res]), .inl (by simp [State.res])⟩
  | set b o =>
    exact ⟨_, exec_set b o s, s.getReg_set_or b o, .inl (by simp [State.set]), .inl (by simp [State.set])⟩
  | prefix_CB op =>
    exact ⟨_, rfl, fun q => (s.getReg_cbEffect_or op q).imp_right (.prefix_CB op q), .inl (s.cbEffect_sp op),
      .inl (s.cbEffect_pc op)⟩
  | rlca => exact ⟨_, rfl, .of_rotA .rlc .rlca⟩
  | rrca => exact ⟨_, rfl, .of_rotA .rrc .rrca⟩
  | rla => exact ⟨_, rfl, .of_rotA .rl .rla⟩
  | rra => exact ⟨_, rfl, .of_rotA .rr .rra⟩
  | daa => exact ⟨_, rfl, .of_a .daa (fun q => s.getReg_setReg_or .a q _) rfl rfl⟩
  | cpl => exact ⟨_, rfl, .of_a .cpl (fun q => s.getReg_setReg_or .a q _) rfl rfl⟩
  | ld_A_mBC => exact ⟨_, rfl, .of_loadA _ .ld_A_mBC⟩
  | ld_A_mDE => exact ⟨_, rfl, .of_loadA _ .ld_A_mDE⟩
  | ld_A_ma16 n16 => exact ⟨_, rfl, .of_loadA _ (.ld_A_ma16 n16)⟩
  | ldh_A_ma8 a8 => exact ⟨_, rfl, .of_loadA _ (.ldh_A_ma8 a8)⟩
  | ldh_A_mC => exact ⟨_, rfl, .of_loadA _ .ldh_A_mC⟩
  | ld_A_mHLi =>
    exact ⟨_, rfl, fun q => (s.getReg_loadA_setHL_or _ _ q).imp_right (.ld_A_mHLi q), .inl rfl, .inl rfl⟩
  | ld_A_mHLd =>
    exact ⟨_, rfl, fun q => (s.getReg_loadA_setHL_or _ _ q).imp_right (.ld_A_mHLd q), .inl rfl, .inl rfl⟩
  | ld_mHLi_A =>
    exact ⟨_, rfl, fun q => ((s.storeA s.hl).getReg_setHL_or _ q).imp_right (.ld_mHLi_A q), .inl rfl, .inl rfl⟩
  | ld_mHLd_A =>
    exact ⟨_, rfl, fun q => ((s.storeA s.hl).getReg_setHL_or _ q).imp_right (.ld_mHLd_A q), .inl rfl, .inl rfl⟩
  | ld_HL_SPe8 e8 =>
    exact ⟨_, rfl, fun q => (s.getReg_setHL_or _ q).imp_right (.ld_HL_SPe8 e8 q), .inl rfl, .inl rfl⟩
  | ld_SP_HL => exact ⟨_, rfl, fun _ => .inl rfl, .inr .ld_SP_HL, .inl rfl⟩
  | add_SP_e8 e8 => exact ⟨_, rfl, fun _ => .inl rfl, .inr (.add_SP_e8 e8), .inl rfl⟩
  | jp_a16 n16 => exact ⟨_, rfl, fun _ => .inl rfl, .inl rfl, .inr (.jp_a16 n16)⟩
  | jp_HL => exact ⟨_, rfl, fun _ => .inl rfl, .inl rfl, .inr .jp_HL⟩
  | jr_e8 e8 => exact ⟨_, rfl, fun _ => .inl rfl, .inl rfl, .inr (.jr_e8 e8)⟩
  | call_a16 n16 => exact ⟨_, rfl, fun q => .inl (s.getReg_call n16 q), .inr (.call_a16 n16), .inr (.call_a16 n16)⟩
  | ret => exact ⟨_, rfl, fun q => .inl (s.getReg_returnToCaller q), .inr .ret, .inr .ret⟩
  | reti =>
    exact ⟨_, rfl, fun q => .inl (State.getReg_returnToCaller { s with ime := true } q), .inr .reti, .inr .reti⟩
  | halt =>
    refine ⟨_, rfl, ?_⟩
    split <;> exact ⟨fun _ => .inl rfl, .inl rfl, .inl rfl⟩
  | _ => exact ⟨_, rfl, fun _ => .inl rfl, .inl rfl, .inl rfl⟩

/-- Settles O52: a register that differs is not one that stayed. -/
theorem registersFrame : Obligations.RegistersFrame := by
  intro i s t e
  obtain ⟨u, hu, after⟩ := exec_registersAfter i s
  cases hu.symm.trans e
  exact ⟨fun q => (after.reg q).resolve_left, after.sp.resolve_left, after.pc.resolve_left⟩

end Sys2Proof.Machine
end

section
/-! PROOF of O8, O9, O10 and O11: what is held and read back after a byte, a word and a push are written (20_memory.md
R60 to R66), and the canonical form of memory (log entry 2). -/

namespace Sys2Proof.Machine

open Sys2Proof.Statements

/-! ### The canonical form is extensional -/

theorem Memory.read_cons_self (k : Nat) (v : Byte) (m : List Host.Cell) : Memory.read ((k, v) :: m) k = v :=
  if_pos rfl

theorem Memory.read_cons_of_ne {a k : Nat} (v : Byte) (m : List Host.Cell) (h : a ≠ k) :
    Memory.read ((k, v) :: m) a = Memory.read m a :=
  if_neg h

/-- The first address of a canonical memory is the first that is not blank, so a canonical memory that is not blank at
`a` starts at `a` or before. -/
theorem Memory.head_le_of_read_ne_blank {low a k : Nat} {v : Byte} {m : List Host.Cell}
    (wf : Memory.wfFrom low ((k, v) :: m) = true) (h : Memory.read ((k, v) :: m) a ≠ Memory.blank) : k ≤ a := by
  obtain ⟨-, range, notBlank, tail⟩ := Memory.wfFrom_cons.mp wf
  by_contra below
  exact h (Memory.read_below (Memory.wfFrom_cons.mpr ⟨le_rfl, range, notBlank, tail⟩) (by omega))

/-- Canonical tails behind the same entry read alike where the whole memories do. -/
theorem Memory.read_tail_eq {k a : Nat} {v : Byte} {m m' : List Host.Cell} (wf : Memory.wfFrom (k + 1) m = true)
    (wf' : Memory.wfFrom (k + 1) m' = true)
    (alike : Memory.read ((k, v) :: m) a = Memory.read ((k, v) :: m') a) : Memory.read m a = Memory.read m' a := by
  by_cases h : a = k
  · rw [Memory.read_below wf (by omega), Memory.read_below wf' (by omega)]
  · rwa [Memory.read_cons_of_ne v m h, Memory.read_cons_of_ne v m' h] at alike

/-- The two first entries agree: each is where the other memory is not blank. -/
theorem Memory.eq_of_read_eq {m m' : List Host.Cell} {low : Nat} (wf : Memory.wfFrom low m = true)
    (wf' : Memory.wfFrom low m' = true)
    (alike : ∀ a < Config.addressSpace, Memory.read m a = Memory.read m' a) : m = m' := by
  induction m generalizing m' low with
  | nil =>
    cases m' with
    | nil => rfl
    | cons e m' =>
      obtain ⟨k, v⟩ := e
      obtain ⟨-, range, notBlank, -⟩ := Memory.wfFrom_cons.mp wf'
      exact absurd ((Memory.read_cons_self k v m').symm.trans (alike k range).symm) notBlank
  | cons e m ih =>
    obtain ⟨k, v⟩ := e
    obtain ⟨-, range, notBlank, tail⟩ := Memory.wfFrom_cons.mp wf
    have here := (alike k range).symm.trans (Memory.read_cons_self k v m)
    cases m' with
    | nil => exact absurd here.symm notBlank
    | cons e' m' =>
      obtain ⟨k', v'⟩ := e'
      obtain ⟨-, range', notBlank', tail'⟩ := Memory.wfFrom_cons.mp wf'
      have here' := (alike k' range').trans (Memory.read_cons_self k' v' m')
      obtain rfl : k = k' := Nat.le_antisymm
        (Memory.head_le_of_read_ne_blank wf (here'.trans_ne notBlank'))
        (Memory.head_le_of_read_ne_blank wf' (here.trans_ne notBlank))
      obtain rfl : v' = v := (Memory.read_cons_self k v' m').symm.trans here
      rw [ih tail tail' fun a ha => Memory.read_tail_eq tail tail' (alike a ha)]

/-- Settles O11, by induction on the lists from the lowest address up. -/
theorem canonicalMemoryIsExtensional : Obligations.CanonicalMemoryIsExtensional :=
  fun _ _ wf wf' alike => Memory.eq_of_read_eq wf wf' fun a ha => alike (BitVec.ofNatLT a ha)

/-! ### Reads of plain memory -/

section
variable {s : State} {a : Word}

/-- In plain memory a read returns the byte held (R60). -/
theorem State.peek_ram (k : s.kindAt a = .ram) : s.peek a = s.held a :=
  State.peek_of_ne (by simp [k])

/-- A byte written to plain memory reads back (R61). -/
theorem State.peek_store_self (v : Byte) (k : s.kindAt a = .ram) (wf : Memory.wf s.mem = true) :
    (s.store a v).peek a = v :=
  (State.peek_ram (s := s.store a v) k).trans (State.held_store_self v k wf)

/-- A word whose two bytes plain memory holds, the low one first, reads as that word (R62, R66). -/
theorem State.peek16_of_held {v : Word} (k0 : s.kindAt a = .ram) (k1 : s.kindAt (a + 1) = .ram)
    (low : s.held a = lo v) (high : s.held (a + 1) = hi v) : s.peek16 a = v := by
  have second : (s.noteRead a).peek (a + 1) = hi v := (State.peek_ram (s := s.noteRead a) k1).trans high
  have first : s.peek a = lo v := (State.peek_ram k0).trans low
  rw [State.peek16, second, first, join_hi_lo]

/-! ### Two bytes stored -/

/-- Of two stores the first stays readable where the second goes elsewhere. -/
theorem State.held_store_store_first {b : Word} (v w : Byte) (ne : a ≠ b) (k : s.kindAt a = .ram)
    (wf : Memory.wf s.mem = true) : ((s.store a v).store b w).held a = v :=
  (State.held_store_of_ne _ w ne).trans (State.held_store_self v k wf)

theorem State.held_store_store_second (b : Word) (v w : Byte) (k : s.kindAt a = .ram)
    (wf : Memory.wf s.mem = true) : ((s.store b v).store a w).held a = w :=
  State.held_store_self (s := s.store b v) w k (State.wf_store b v wf)

theorem State.held_store16_low (v : Word) (k : s.kindAt a = .ram) (wf : Memory.wf s.mem = true) :
    (s.store16 a v).held a = lo v :=
  State.held_store_store_first _ _ (by bv_omega) k wf

theorem State.held_store16_high (v : Word) (k : s.kindAt (a + 1) = .ram) (wf : Memory.wf s.mem = true) :
    (s.store16 a v).held (a + 1) = hi v :=
  State.held_store_store_second a _ _ k wf

theorem State.held_push16 (s : State) (v b : Word) :
    (s.push16 v).held b = ((s.store (s.sp - 1) (hi v)).store (s.sp - 2) (lo v)).held b := rfl

theorem State.held_push16_low (v : Word) (k : s.kindAt (s.sp - 2) = .ram) (wf : Memory.wf s.mem = true) :
    (s.push16 v).held (s.sp - 2) = lo v := by
  rw [State.held_push16, State.held_store_store_second _ _ _ k wf]

theorem State.held_push16_high (v : Word) (k : s.kindAt (s.sp - 1) = .ram) (wf : Memory.wf s.mem = true) :
    (s.push16 v).held (s.sp - 1) = hi v := by
  rw [State.held_push16, State.held_store_store_first _ _ (by bv_omega) k wf]

end

/-- The byte above the new top of the stack is the one below the old top. -/
theorem pushed_sp_succ (sp : Word) : sp - 2 + 1 = sp - 1 := by bv_omega

/-- Settles O8: what a store and a read do to the byte held, and that they touch the trace, memory and the answers
only. -/
theorem byteReadAfterWrite : Obligations.ByteReadAfterWrite := by
  intro s addr v
  refine ⟨fun k wf b => ?_, State.peek_store_self v, fun k => State.memAfter_of_ne v (by simp [k]), rfl, rfl,
    fun k => ⟨State.peek_ram k, State.noteRead_of_ne (by simp [k])⟩, rfl, rfl⟩
  split
  · subst b
    exact State.held_store_self v k wf
  · exact s.held_store_of_ne v ‹_›

/-! ### Immediates -/

/-- An opcode with a two-byte immediate decodes with the low byte first (R66). -/
theorem decode_word_immediate {b0 : Byte} {row : Word → Instr} (two : operandBytes b0 = 2)
    (entry : ∀ lsb msb : Byte, decodeRow b0 lsb msb = row (msb ++ lsb)) (lsb msb : Byte) :
    decode [b0, lsb, msb] = .ok (row (msb ++ lsb), []) := by
  rw [decode_three lsb msb [] two, entry]

theorem decode_ldPair (p : Pair) (lsb msb : Byte) :
    decode [0x01 + 16 * p.code, lsb, msb] = .ok (.ldPair p (msb ++ lsb), []) := by
  cases p <;> exact decode_word_immediate rfl (fun _ _ => rfl) lsb msb

theorem decode_jpIf (cc : Cond) (lsb msb : Byte) :
    decode [0xC2 + 8 * cc.code, lsb, msb] = .ok (.jpIf cc (msb ++ lsb), []) := by
  cases cc <;> exact decode_word_immediate rfl (fun _ _ => rfl) lsb msb

theorem decode_callIf (cc : Cond) (lsb msb : Byte) :
    decode [0xC4 + 8 * cc.code, lsb, msb] = .ok (.callIf cc (msb ++ lsb), []) := by
  cases cc <;> exact decode_word_immediate rfl (fun _ _ => rfl) lsb msb

/-- Settles O9: data by the bytes held after two stores, immediates opcode by opcode, the stack by the bytes held after
a push. -/
theorem littleEndianEverywhere : Obligations.LittleEndianEverywhere := by
  refine ⟨fun s addr v => ⟨rfl, List.append_assoc .., fun wf k0 k1 => ?_⟩, fun lsb msb r cc => ?_,
    fun s v wf k1 k2 => ⟨?_, ?_⟩⟩
  · have low := State.held_store16_low v k0 wf
    have high := State.held_store16_high v k1 wf
    exact ⟨(State.peek_ram (s := s.store16 addr v) k0).trans low,
      (State.peek_ram (s := s.store16 addr v) k1).trans high,
      State.peek16_of_held (s := s.store16 addr v) k0 k1 low high⟩
  · simp only [List.forall_mem_cons]
    exact ⟨decode_ldPair r lsb msb, decode_word_immediate rfl (fun _ _ => rfl) lsb msb,
      decode_word_immediate rfl (fun _ _ => rfl) lsb msb, decode_jpIf cc lsb msb,
      decode_word_immediate rfl (fun _ _ => rfl) lsb msb, decode_callIf cc lsb msb,
      decode_word_immediate rfl (fun _ _ => rfl) lsb msb, decode_word_immediate rfl (fun _ _ => rfl) lsb msb, nofun⟩
  · exact (State.peek_ram (s := s.push16 v) k2).trans (State.held_push16_low v k2 wf)
  · rw [State.push16_sp, pushed_sp_succ]
    exact (State.peek_ram (s := s.push16 v) k1).trans (State.held_push16_high v k1 wf)

/-- A pop after a push to plain memory returns the word pushed (R64, R65, R82). -/
theorem State.popVal_push16 {s : State} (v : Word) (k1 : s.kindAt (s.sp - 1) = .ram)
    (k2 : s.kindAt (s.sp - 2) = .ram) (wf : Memory.wf s.mem = true) : (s.push16 v).popVal = v := by
  have above := pushed_sp_succ s.sp
  exact State.peek16_of_held (s := s.push16 v) k2 (above.symm ▸ k1) (State.held_push16_low v k2 wf)
    (above.symm ▸ State.held_push16_high v k1 wf)

/-- Settles O10: the pop reads the two bytes that the push stored. -/
theorem pushThenPop : Obligations.PushThenPop := fun s v =>
  ⟨rfl, fun wf k1 k2 => State.popVal_push16 v k1 k2 wf, BitVec.sub_add_cancel s.sp 2, List.append_assoc ..,
    fun _ => s.held_push16_of_ne v, rfl, rfl⟩

end Sys2Proof.Machine
end

section
/-! PROOF of O53. For each operation that stores, at which addresses it can change the byte held; every other operation
keeps memory. A case per form of instruction then compares that with the addresses its rule names. -/

namespace Sys2Proof.Machine

open Sys2Proof.Statements

/-- What keeps memory keeps every byte held. -/
theorem State.held_congr {s t : State} (h : t.mem = s.mem) (b : Word) : t.held b = s.held b :=
  congrArg (Memory.read · b.toNat) h

section
variable (s : State)

/-! ### Where an operation can change the byte held -/

theorem State.held_store_or (a : Word) (v : Byte) (b : Word) : (s.store a v).held b = s.held b ∨ b = a :=
  (ne_or_eq b a).imp_left (s.held_store_of_ne v)

theorem State.held_store16_or (a v b : Word) : (s.store16 a v).held b = s.held b ∨ b = a ∨ b = a + 1 :=
  or_iff_not_imp_right.mpr fun h => s.held_store16_of_ne v (h ∘ .inl) (h ∘ .inr)

theorem State.held_push16_or (v b : Word) : (s.push16 v).held b = s.held b ∨ b = s.sp - 1 ∨ b = s.sp - 2 :=
  or_iff_not_imp_right.mpr fun h => s.held_push16_of_ne v (h ∘ .inl) (h ∘ .inr)

theorem State.held_call_or (target b : Word) :
    (s.call target).held b = s.held b ∨ b = s.sp - 1 ∨ b = s.sp - 2 :=
  s.held_push16_or s.pc b

/-- The operand read and written in place stores at HL, if anywhere. -/
theorem State.held_touch_put_or (o : Operand8) (v : Byte) (b : Word) :
    ((s.touch o).put o v).held b = s.held b ∨ o = .memHL ∧ b = s.h ++ s.l := by
  cases o with
  | reg r => exact .inl (State.held_congr (s.setReg_mem r v) b)
  | memHL => exact ((s.noteRead s.hl).held_store_or s.hl v b).imp_right (⟨rfl, ·⟩)

theorem State.held_rot_or (op : RotOp) (o : Operand8) (b : Word) :
    (s.rot op o).held b = s.held b ∨ StoresAt (.rot op o) s b :=
  (s.held_touch_put_or o _ b).imp_right (by rintro ⟨rfl, rfl⟩; exact .rot op s)

theorem State.held_res_or (n : Fin 8) (o : Operand8) (b : Word) :
    (s.res n o).held b = s.held b ∨ StoresAt (.res n o) s b :=
  (s.held_touch_put_or o _ b).imp_right (by rintro ⟨rfl, rfl⟩; exact .res n s)

theorem State.held_set_or (n : Fin 8) (o : Operand8) (b : Word) :
    (s.set n o).held b = s.held b ∨ StoresAt (.set n o) s b :=
  (s.held_touch_put_or o _ b).imp_right (by rintro ⟨rfl, rfl⟩; exact .set n s)

theorem State.held_cbEffect_or (op : Byte) (b : Word) :
    (s.cbEffect op).held b = s.held b ∨ StoresAt (cbRow op) s b := by
  unfold State.cbEffect cbRow
  generalize fieldX op = x
  match x with
  | 0 => exact s.held_rot_or _ _ b
  | 1 => exact .inl (State.held_congr (s.touch_mem _) b)
  | 2 => exact s.held_res_or _ _ b
  | _ + 3 => exact s.held_set_or _ _ b

/-- The model's condition is the spec's (47_control_flow.md R240). -/
theorem State.cond_iff_holds (cc : Cond) : s.cond cc = true ↔ holds cc s.f := by
  cases cc <;> simp [State.cond, holds]

/-- CALL cc stores only when its condition holds (R247). -/
theorem State.held_callIf_or (cc : Cond) (n16 b : Word) :
    (s.when cc (·.call n16)).held b = s.held b ∨ StoresAt (.callIf cc n16) s b := by
  cases hc : s.cond cc with
  | false =>
    rw [State.when_neg _ hc]
    exact .inl rfl
  | true =>
    rw [State.when_pos _ hc]
    have met : holds cc s.f := (s.cond_iff_holds cc).mp hc
    exact (s.held_call_or n16 b).imp_right (.pushes _ s b (.inr (.inr (.inr ⟨cc, n16, rfl, met⟩))))

end

/-! ### Instructions -/

/-- From `s` to `t`, the byte held differs only where the rule of `i` stores. -/
def MemoryAfter (i : Instr) (s t : State) : Prop := ∀ b : Word, t.held b = s.held b ∨ StoresAt i s b

section
variable {i : Instr} {s t : State}

theorem MemoryAfter.of_mem (h : t.mem = s.mem) : MemoryAfter i s t := fun b => .inl (State.held_congr h b)

/-- One byte stored, at an address that the rule names. -/
theorem MemoryAfter.of_store {a : Word} (v : Byte) (h : StoresAt i s a) (mem : t.mem = (s.store a v).mem) :
    MemoryAfter i s t := fun b =>
  State.held_congr mem b ▸ (s.held_store_or a v b).imp_right (by rintro rfl; exact h)

end

/-- Every instruction answers a next state with the bytes held changed at most where its rule stores. -/
theorem exec_memoryAfter (i : Instr) (s : State) : ∃ t, exec i s = .next t ∧ MemoryAfter i s t := by
  cases i using Instr.byForm with
  | inc o =>
    exact ⟨_, exec_inc o s, fun b => (s.held_touch_put_or o _ b).imp_right (by rintro ⟨rfl, rfl⟩; exact .inc s)⟩
  | dec o =>
    exact ⟨_, exec_dec o s, fun b => (s.held_touch_put_or o _ b).imp_right (by rintro ⟨rfl, rfl⟩; exact .dec s)⟩
  | ldImm o n8 =>
    refine ⟨_, exec_ldImm o n8 s, ?_⟩
    cases o with
    | reg r => exact .of_mem (s.setReg_mem r n8)
    | memHL => exact .of_store n8 (.ldImm n8 s) rfl
  | ldReg r o => exact ⟨_, exec_ldReg r o s, .of_mem (((s.touch o).setReg_mem r _).trans (s.touch_mem o))⟩
  | ldStore r => exact ⟨_, exec_ldStore r s, .of_store _ (.ldStore r s) rfl⟩
  | alu op o => exact ⟨_, exec_alu op o s, .of_mem (s.touch_mem o)⟩
  | aluImm op n8 => exact ⟨_, exec_aluImm op n8 s, .of_mem rfl⟩
  | ldPair p n16 => exact ⟨_, exec_ldPair p n16 s, .of_mem (s.setPair_mem p n16)⟩
  | addHL p => exact ⟨_, exec_addHL p s, .of_mem rfl⟩
  | incPair p => exact ⟨_, exec_incPair p s, .of_mem (s.setPair_mem p _)⟩
  | decPair p => exact ⟨_, exec_decPair p s, .of_mem (s.setPair_mem p _)⟩
  | push p => exact ⟨_, exec_push p s, fun b => (s.held_push16_or _ b).imp_right (.pushes _ s b (.inl ⟨p, rfl⟩))⟩
  | pop p => exact ⟨_, exec_pop p s, .of_mem (s.popped.setStackPair_mem p _)⟩
  | jrIf cc e8 => exact ⟨_, exec_jrIf cc e8 s, .of_mem (s.when_keeps cc State.mem rfl rfl)⟩
  | jpIf cc n16 => exact ⟨_, exec_jpIf cc n16 s, .of_mem (s.when_keeps cc State.mem rfl rfl)⟩
  | callIf cc n16 => exact ⟨_, exec_callIf cc n16 s, s.held_callIf_or cc n16⟩
  | retIf cc => exact ⟨_, exec_retIf cc s, .of_mem (s.when_keeps cc State.mem rfl rfl)⟩
  | rst y => exact ⟨_, exec_rst y s, fun b => (s.held_call_or _ b).imp_right (.pushes _ s b (.inr (.inl ⟨y, rfl⟩)))⟩
  | rot op o => exact ⟨_, exec_rot op o s, s.held_rot_or op o⟩
  | bit n o => exact ⟨_, exec_bit n o s, .of_mem (s.touch_mem o)⟩
  | res n o => exact ⟨_, exec_res n o s, s.held_res_or n o⟩
  | set n o => exact ⟨_, exec_set n o s, s.held_set_or n o⟩
  | prefix_CB op => exact ⟨_, rfl, fun b => (s.held_cbEffect_or op b).imp_right (.prefix_CB op s b)⟩
  | ld_ma16_SP n16 =>
    refine ⟨_, rfl, fun b => (s.held_store16_or n16 s.sp b).imp_right ?_⟩
    rintro (rfl | rfl)
    · exact .ld_ma16_SP_low b s
    · exact .ld_ma16_SP_high n16 s
  | ld_mBC_A => exact ⟨_, rfl, .of_store s.a (.ld_mBC_A s) rfl⟩
  | ld_mDE_A => exact ⟨_, rfl, .of_store s.a (.ld_mDE_A s) rfl⟩
  | ld_mHLi_A => exact ⟨_, rfl, .of_store s.a (.ld_mHLi_A s) rfl⟩
  | ld_mHLd_A => exact ⟨_, rfl, .of_store s.a (.ld_mHLd_A s) rfl⟩
  | ld_ma16_A n16 => exact ⟨_, rfl, .of_store s.a (.ld_ma16_A n16 s) rfl⟩
  | ldh_ma8_A a8 => exact ⟨_, rfl, .of_store s.a (.ldh_ma8_A a8 s) rfl⟩
  | ldh_mC_A => exact ⟨_, rfl, .of_store s.a (.ldh_mC_A s) rfl⟩
  | call_a16 n16 =>
    exact ⟨_, rfl, fun b => (s.held_call_or n16 b).imp_right (.pushes _ s b (.inr (.inr (.inl ⟨n16, rfl⟩))))⟩
  | halt =>
    refine ⟨_, rfl, .of_mem ?_⟩
    split <;> rfl
  | _ => exact ⟨_, rfl, .of_mem rfl⟩

/-- Settles O53: a byte held differs only where the instruction stores. -/
theorem memoryFrame : Obligations.MemoryFrame := by
  intro i s t e b outside
  obtain ⟨u, hu, after⟩ := exec_memoryAfter i s
  cases hu.symm.trans e
  exact (after b).resolve_right outside

end Sys2Proof.Machine
end

section
/-! PROOF of O1 to O4: the decoder and the encoder are inverse (30_encoding.md R91, R97, R98), and the first byte
decides the length (R110) and whether there is an instruction (R108). Both opcode maps are tables of 256 rows: the CB
table is compared byte by byte, the base table byte by byte for all immediates at once, and the other way round the
decoder is run on the encoding of each form of instruction, operand by operand. -/

namespace Sys2Proof

/-! ### The CB table -/

/-- 0xCB and any byte are the CB entry of that byte (R98). -/
theorem decode_prefix (op : Byte) (rest : List Byte) : decode (0xCB :: op :: rest) = .ok (cbRow op, rest) :=
  decode_two op rest rfl

theorem encode_cbRow : ∀ op : Byte, encode (cbRow op) = [0xCB, op] := by decide

theorem cbRow_wf : ∀ op : Byte, (cbRow op).wf = true := by decide

theorem decode_encode_cbRow (op : Byte) (rest : List Byte) :
    decode (encode (cbRow op) ++ rest) = .ok (cbRow op, rest) := by
  rw [encode_cbRow]
  exact decode_prefix op rest

/-! Which entry of the CB table an operation and its operand are (R107). -/

theorem rot_eq_cbRow (op : RotOp) (o : Operand8) : Instr.rot op o = cbRow (8 * op.code + o.code) := by
  cases op <;> (cases o with | memHL => rfl | reg r => cases r <;> rfl)

theorem bit_eq_cbRow (b : Fin 8) (o : Operand8) :
    Instr.bit b o = cbRow (0x40 + 8 * BitVec.ofNat 8 b.val + o.code) := by
  fin_cases b <;> (cases o with | memHL => rfl | reg r => cases r <;> rfl)

theorem res_eq_cbRow (b : Fin 8) (o : Operand8) :
    Instr.res b o = cbRow (0x80 + 8 * BitVec.ofNat 8 b.val + o.code) := by
  fin_cases b <;> (cases o with | memHL => rfl | reg r => cases r <;> rfl)

theorem set_eq_cbRow (b : Fin 8) (o : Operand8) :
    Instr.set b o = cbRow (0xC0 + 8 * BitVec.ofNat 8 b.val + o.code) := by
  fin_cases b <;> (cases o with | memHL => rfl | reg r => cases r <;> rfl)

/-! ### From an instruction to its bytes and back -/

/-- An opcode byte with a word as its immediate decodes to its row, whatever follows (R97). -/
theorem decode_word {b0 : Byte} {row : Word → Instr} (two : operandBytes b0 = 2)
    (entry : ∀ lsb msb : Byte, decodeRow b0 lsb msb = row (msb ++ lsb)) (v : Word) (rest : List Byte) :
    decode (b0 :: v.extractLsb' 0 8 :: v.extractLsb' 8 8 :: rest) = .ok (row v, rest) := by
  rw [decode_three _ _ rest two, entry, word_of_bytes]

/-- The CB entries by the CB table, word immediates by joining their two bytes, and every other form by running the
decoder on the encoding for each value of its operands. -/
theorem decode_encode (i : Instr) (rest : List Byte) (notPrefix : i.isPrefix = false) :
    decode (encode i ++ rest) = .ok (i, rest) := by
  cases i using Instr.byForm with
  | prefix_CB op => cases notPrefix
  | rot op o => exact rot_eq_cbRow op o ▸ decode_encode_cbRow _ rest
  | bit b o => exact bit_eq_cbRow b o ▸ decode_encode_cbRow _ rest
  | res b o => exact res_eq_cbRow b o ▸ decode_encode_cbRow _ rest
  | set b o => exact set_eq_cbRow b o ▸ decode_encode_cbRow _ rest
  | ldPair p n16 => cases p <;> exact decode_word rfl (fun _ _ => rfl) n16 rest
  | jpIf cc n16 | callIf cc n16 => cases cc <;> exact decode_word rfl (fun _ _ => rfl) n16 rest
  | ld_ma16_SP n16 | jp_a16 n16 | call_a16 n16 | ld_ma16_A n16 | ld_A_ma16 n16 =>
    exact decode_word rfl (fun _ _ => rfl) n16 rest
  | inc o | dec o | ldImm o n8 => cases o with | memHL => rfl | reg r => cases r <;> rfl
  | ldReg r o => cases r <;> (cases o with | memHL => rfl | reg q => cases q <;> rfl)
  | ldStore r => cases r <;> rfl
  | alu op o => cases op <;> (cases o with | memHL => rfl | reg r => cases r <;> rfl)
  | aluImm op n8 => cases op <;> rfl
  | addHL p | incPair p | decPair p | push p | pop p => cases p <;> rfl
  | jrIf cc e8 | retIf cc => cases cc <;> rfl
  | rst y => fin_cases y <;> rfl
  | _ => rfl

/-- Settles O2, form by form. -/
theorem decodeInvertsEncode : Obligations.DecodeInvertsEncode := decode_encode

/-! ### From bytes to an instruction and back -/

theorem operandBytes_cases (b0 : Byte) : operandBytes b0 = 0 ∨ operandBytes b0 = 1 ∨ operandBytes b0 = 2 := by
  have := operandBytes_le b0
  omega

/-- The immediate bytes of the opcode `b0`, from an 8-bit and a 16-bit value to take them from (R91, R97). -/
def immediateBytes (b0 n8 : Byte) (n16 : Word) : List Byte :=
  match operandBytes b0 with
  | 0 => []
  | 1 => [n8]
  | _ => [n16.extractLsb' 0 8, n16.extractLsb' 8 8]

theorem immediateBytes_join (b0 b1 b2 : Byte) :
    immediateBytes b0 b1 (b2 ++ b1) = [b1, b2].take (operandBytes b0) := by
  rcases operandBytes_cases b0 with h | h | h
  · simp [immediateBytes, h]
  · simp [immediateBytes, h]
  · simp [immediateBytes, h, low_of_word, high_of_word]

/-- The base table (R103 to R106, R108), one row for each opcode byte. -/
theorem encode_baseRow (b0 b1 b2 : Byte) : encode (baseRow b0 b1 b2) = b0 :: immediateBytes b0 b1 (b2 ++ b1) := by
  revert b0
  refine byte_cases fun k hk => ?_
  interval_cases k <;> rfl

theorem encode_decodeRow (b0 b1 b2 : Byte) :
    encode (decodeRow b0 b1 b2) = b0 :: [b1, b2].take (operandBytes b0) := by
  unfold decodeRow
  split
  · rename_i isPrefix
    subst isPrefix
    exact encode_cbRow b1
  · rw [encode_baseRow, immediateBytes_join]

/-- The bytes that `decode` hands to the table are the first ones of the list, as far as the instruction reaches. -/
theorem take_pair_getD {n : Nat} (tail : List Byte) (le_two : n ≤ 2) (le_length : n ≤ tail.length) :
    [tail.getD 0 0, tail.getD 1 0].take n = tail.take n := by
  match n, tail with
  | 0, _ => rfl
  | 1, _ :: _ => rfl
  | 2, _ :: _ :: _ => rfl

/-- Settles O3: the row read is encoded by the bytes it was read from, and the rest is what is left of them. -/
theorem encodeInvertsDecode : Obligations.EncodeInvertsDecode := by
  intro bs i rest h
  obtain ⟨b0, tail, rfl, le_length, rfl, rfl⟩ := decode_ok h
  rw [encode_decodeRow, take_pair_getD tail (operandBytes_le b0) le_length, List.cons_append, List.take_append_drop]

/-! ### What the first byte decides -/

/-- The opcodes with a 16-bit immediate (R91, R110). -/
def threeByteOpcodes : List Byte :=
  [0x01, 0x11, 0x21, 0x31, 0x08, 0xC2, 0xCA, 0xD2, 0xDA, 0xC3, 0xC4, 0xCC, 0xD4, 0xDC, 0xCD, 0xEA, 0xFA]

/-- The opcodes with an 8-bit immediate or pad byte, and 0xCB (R91, R110). -/
def twoByteOpcodes : List Byte :=
  [0x06, 0x0E, 0x16, 0x1E, 0x26, 0x2E, 0x36, 0x3E, 0x10, 0x18, 0x20, 0x28, 0x30, 0x38, 0xC6, 0xCE, 0xD6, 0xDE,
    0xE6, 0xEE, 0xF6, 0xFE, 0xE0, 0xF0, 0xE8, 0xF8, 0xCB]

/-- The bytes without an instruction (R108). -/
def unassignedOpcodes : List Byte := [0xD3, 0xDB, 0xDD, 0xE3, 0xE4, 0xEB, 0xEC, 0xED, 0xF4, 0xFC, 0xFD]

theorem operandBytes_succ_eq : ∀ b0 : Byte,
    operandBytes b0 + 1 = if b0 ∈ threeByteOpcodes then 3 else if b0 ∈ twoByteOpcodes then 2 else 1 := by
  decide

theorem baseRow_wf (b0 b1 b2 : Byte) :
    (baseRow b0 b1 b2).wf = !decide (b0 ∈ prefixByte :: unassignedOpcodes) := by
  revert b0
  refine byte_cases fun k hk => ?_
  interval_cases k <;> rfl

theorem decodeRow_wf_eq_false_iff (b0 b1 b2 : Byte) :
    (decodeRow b0 b1 b2).wf = false ↔ b0 ∈ unassignedOpcodes := by
  unfold decodeRow
  split
  · rename_i isPrefix
    subst isPrefix
    simp only [cbRow_wf]
    decide
  · rename_i notPrefix
    simp [baseRow_wf, notPrefix]

/-- Settles O4: the length by the number of operand bytes, and well-formedness by the table row read. -/
theorem firstByteDecides : Obligations.FirstByteDecides := by
  intro b0 bs i rest h
  obtain ⟨b, tail, bytes, le_length, rfl, rfl⟩ := decode_ok h
  obtain ⟨rfl, rfl⟩ := List.cons.inj bytes
  have length : (b0 :: bs).length = (bs.drop (operandBytes b0)).length + (operandBytes b0 + 1) := by
    rw [List.length_cons, List.length_drop]
    omega
  exact ⟨length.trans (congrArg _ (operandBytes_succ_eq b0)), decodeRow_wf_eq_false_iff b0 _ _⟩

/-- Settles O1, by running the decoder on the listed bytes. -/
theorem specEncodingsDecode : Obligations.SpecEncodingsDecode := by
  unfold Obligations.SpecEncodingsDecode
  decide

end Sys2Proof
end

section
/-! PROOF of O5 and O42: the operand tables as values of the state (30_encoding.md R93 to R96), and 0xCB as the
escape into the CB table (48_system.md R265). -/

namespace Sys2Proof.Machine

/-- Settles O5: both sides of each table are the same reads of the state. -/
theorem operandFieldTables : Obligations.OperandFieldTables := fun _ => ⟨rfl, rfl, rfl, rfl⟩

/-- Settles O42: the pair is the CB entry of its second byte, and the row `prefix_CB` does the same by definition. -/
theorem prefixEscapes : Obligations.PrefixEscapes := fun op rest =>
  ⟨decode_prefix op rest, encode_cbRow op, cbRow_wf op, fun s => ⟨_, exec_cbRow op s, rfl⟩⟩

end Sys2Proof.Machine
end

section
/-! PROOF of O45. A step that decodes at PC runs what the bytes read from PC on decode to, with or without the HALT bug:
`State.fetchAddrs` says which addresses those are. -/

namespace Sys2Proof

theorem Instr.isIllegal_of_wf {i : Instr} (wf : i.wf = true) : i.isIllegal = false := by
  simp only [Instr.wf, Bool.and_eq_true, Bool.not_eq_true'] at wf
  exact wf.1

end Sys2Proof

namespace Sys2Proof.Machine

open Sys2Proof.Statements

/-- With nothing before it, a step is the instruction at PC (60_exceptions.md R300). -/
theorem step_of_decodesAtPC {s : State} (h : decodesAtPC s) : step s = runInstr (ready s) := by
  obtain ⟨noReset, noFault, awake, noEntry⟩ := h
  have notAsleep : s.beginStep.asleep = false := by
    simpa [State.asleep, or_iff_not_imp_left] using awake
  have notAccepted : s.beginStep.wake.accepted = none := by
    simpa [State.accepted, or_iff_not_imp_left] using noEntry
  rw [step_of_unlatched noReset noFault, stepAwake, notAsleep, notAccepted]
  rfl

/-- The model's end of a step is the spec's: promotion, then the cost (R300 item 6, R303). -/
theorem State.complete_eq_finished (t : State) (p0 : Bool) (i : Instr) :
    t.complete p0 (cycles i) = finished p0 i t := by
  cases t with
  | mk a b c d e h l f sp pc ime pendingEnable =>
    cases p0 <;> cases pendingEnable <;> simp [State.complete, State.promote, finished]

/-! ### The bytes of a fetch -/

/-- The addresses a fetch reads from, as many of them as the instruction has bytes (30_encoding.md R98, R99). -/
def State.fetchAddrs (s : State) : List Word := [s.pc, s.cursor, s.cursor + 1]

theorem State.noteFetch_eq_afterReads (s : State) :
    s.noteFetch = afterReads (s.fetchAddrs.take (operandBytes (s.peek s.pc) + 1)) s := by
  rcases operandBytes_cases (s.peek s.pc) with h | h | h <;> rw [h]
  · exact State.noteFetch_zero h
  · exact State.noteFetch_one h
  · exact State.noteFetch_two h

/-- What the bytes at those addresses decode to is the instruction fetched, and the bytes it does not use are left. -/
theorem State.decode_fetchAddrs {s : State} {i : Instr} {rest : List Byte}
    (h : decode (bytesRead s.fetchAddrs s) = .ok (i, rest)) :
    i = s.fetched ∧ rest.length + operandBytes (s.peek s.pc) = 2 := by
  obtain ⟨b0, tail, bytes, -, rfl, rfl⟩ := decode_ok h
  obtain ⟨rfl, rfl⟩ := List.cons.inj bytes
  refine ⟨rfl, ?_⟩
  rw [List.length_drop]
  exact Nat.sub_add_cancel (operandBytes_le _)

theorem runInstr_of_decode {s : State} {i : Instr} {rest : List Byte}
    (h : decode (bytesRead s.fetchAddrs s) = .ok (i, rest)) (wf : i.wf = true) :
    runInstr s = mapNext (finished s.pendingEnable i)
      (exec i { afterReads (s.fetchAddrs.take (3 - rest.length)) s with
        pc := s.cursor + BitVec.ofNat 16 (2 - rest.length)
        haltBug := false }) := by
  obtain ⟨rfl, length⟩ := State.decode_fetchAddrs h
  have reads : 3 - rest.length = operandBytes (s.peek s.pc) + 1 := by omega
  have operands : 2 - rest.length = operandBytes (s.peek s.pc) := by omega
  rw [reads, operands, ← State.noteFetch_eq_afterReads, runInstr, Instr.isIllegal_of_wf wf]
  simp only [State.complete_eq_finished]
  rfl

/-- Settles O45: under the HALT bug the byte after the opcode is read at PC once more, and PC advances from there. -/
theorem haltBugRepeatsByte : Obligations.HaltBugRepeatsByte := by
  intro s i rest decodes haltBug at3 h wf
  have cursor : (ready s).cursor = s.pc := if_pos haltBug
  have addrs : (ready s).fetchAddrs = at3 := by
    rw [State.fetchAddrs, cursor]
    rfl
  rw [step_of_decodesAtPC decodes, runInstr_of_decode (addrs ▸ h) wf, addrs, cursor]
  rfl

end Sys2Proof.Machine
end

section
/-! PROOF of O12, O13 and O14. The model narrows exact sums and differences, the spec's formulas add and compare bytes
(40_additive.md R130, R131): `add8_eq` and `sub8_eq` say that these are the same, and every form of ADD, ADC, SUB, SBC
and CP is one of the two applied to A and the operand. -/

namespace Sys2Proof

/-- The accumulator operations fill the x = 2 block of the opcode map, eight operands to a row (R105). -/
theorem encode_alu (op : AluOp) (o : Operand8) : encode (.alu op o) = [0x80 + 8 * op.code + o.code] := by
  cases op <;> (cases o with | memHL => rfl | reg r => cases r <;> rfl)

/-- Their immediate forms are the column z = 6 of the x = 3 block (R106). -/
theorem encode_aluImm (op : AluOp) (n8 : Byte) : encode (.aluImm op n8) = [0xC6 + 8 * op.code, n8] := by
  cases op <;> rfl

end Sys2Proof

namespace Sys2Proof.Machine

open Sys2Proof.Statements

/-! ### Sums and differences of bytes -/

theorem toNat_lowNibble (v : Byte) : (v &&& 0xF).toNat = v.toNat % 16 := by
  rw [BitVec.toNat_and]
  exact Nat.and_two_pow_sub_one_eq_mod v.toNat 4

theorem toNat_carryIn (cin : Bool) : (carryIn cin).toNat = cin.toNat := by
  cases cin <;> rfl

/-- A borrow, an integer difference below 0 (R131), is a comparison of natural numbers. -/
theorem sub_sub_carry_neg_iff (m n : Nat) (cin : Bool) : (m : Int) - n - cin.toNat < 0 ↔ m < n + cin.toNat := by
  omega

/-- The sum narrowed to a byte is the sum of bytes; both carries are those of the unbounded sums (R130). -/
theorem add8_eq (a b : Byte) (cin : Bool) :
    add8 a b cin =
      (a + b + carryIn cin, decide ((a &&& 0xF).toNat + (b &&& 0xF).toNat + cin.toNat > 0xF),
        decide (a.toNat + b.toNat + cin.toNat > 0xFF)) := by
  have narrowed : BitVec.ofNat 8 (a.toNat + b.toNat + cin.toNat) = a + b + carryIn cin := by
    rw [← toNat_carryIn]
    bv_omega
  rw [toNat_lowNibble, toNat_lowNibble, ← narrowed]
  rfl

/-- The difference narrowed to a byte is the difference of bytes; a borrow is a comparison (R131). -/
theorem sub8_eq (a b : Byte) (cin : Bool) :
    sub8 a b cin =
      (a - b - carryIn cin, decide ((a &&& 0xF).toNat < (b &&& 0xF).toNat + cin.toNat),
        decide (a.toNat < b.toNat + cin.toNat)) := by
  have narrowed : BitVec.ofInt 8 ((a.toNat : Int) - b.toNat - cin.toNat) = a - b - carryIn cin := by
    rw [← toNat_carryIn]
    bv_omega
  simp only [sub8, narrowed, sub_sub_carry_neg_iff, toNat_lowNibble]

/-- The narrowed sum is 0 exactly when the unbounded one is a multiple of 256 (R130, R132). -/
theorem add_carry_eq_zero_iff (a b : Byte) (cin : Bool) :
    a + b + carryIn cin = 0 ↔ (a.toNat + b.toNat + cin.toNat) % 256 = 0 := by
  rw [← toNat_carryIn]
  bv_omega

/-! ### A and F after the operation -/

section
variable (s : State) (v : Byte) (cin : Bool)

theorem afterSum_eq :
    afterSum s v cin = { s with a := (add8 s.a v cin).1, f := sumFlags (add8 s.a v cin) } := by
  have zero : (s.a + v + carryIn cin == 0) = decide ((s.a.toNat + v.toNat + cin.toNat) % 256 = 0) :=
    (beq_eq_decide _ _).trans (decide_eq_decide.mpr (add_carry_eq_zero_iff s.a v cin))
  rw [add8_eq, sumFlags, zero]
  rfl

theorem afterDifference_eq :
    afterDifference s v cin = { s with a := (sub8 s.a v cin).1, f := diffFlags (sub8 s.a v cin) } := by
  rw [sub8_eq, diffFlags, beq_eq_decide]
  rfl

/-- The flags of a comparison are those of the difference without a borrow coming in (R144). -/
theorem afterCompare_f : (afterCompare s v).f = (afterDifference s v false).f := by
  have equal : s.a = v ↔ s.a - v - carryIn false = 0 := by
    change s.a = v ↔ s.a - v - 0 = 0
    bv_omega
  simp [afterCompare, afterDifference, BitVec.lt_def, equal]

theorem State.aluWith_add : s.aluWith .add v = afterSum s v false := (afterSum_eq s v false).symm

theorem State.aluWith_adc : s.aluWith .adc v = afterSum s v s.f.c := (afterSum_eq s v s.f.c).symm

theorem State.aluWith_sub : s.aluWith .sub v = afterDifference s v false := (afterDifference_eq s v false).symm

theorem State.aluWith_sbc : s.aluWith .sbc v = afterDifference s v s.f.c := (afterDifference_eq s v s.f.c).symm

theorem State.aluWith_cp : s.aluWith .cp v = afterCompare s v := by
  have flags : (afterCompare s v).f = diffFlags (sub8 s.a v false) :=
    (afterCompare_f s v).trans (congrArg State.f (afterDifference_eq s v false))
  exact congrArg (fun f => { s with f := f }) flags.symm

end

/-! ### The instructions -/

/-- Settles O12: each form answers `aluWith` of the state after the operand is read, and that is `afterSum`. -/
theorem addAndAdc : Obligations.AddAndAdc := by
  refine ⟨fun s o => ⟨encode_alu .add o, encode_alu .adc o, ?_, ?_⟩,
    fun s n8 => ⟨encode_aluImm .add n8, encode_aluImm .adc n8, ?_, ?_⟩⟩
  · rw [exec_alu, State.alu, State.aluWith_add]
  · rw [exec_alu, State.alu, State.aluWith_adc, State.touch_f]
  · rw [exec_aluImm, State.aluWith_add]
  · rw [exec_aluImm, State.aluWith_adc]

/-- Settles O13: the same with `afterDifference`. -/
theorem subAndSbc : Obligations.SubAndSbc := by
  refine ⟨fun s o => ⟨encode_alu .sub o, encode_alu .sbc o, ?_, ?_⟩,
    fun s n8 => ⟨encode_aluImm .sub n8, encode_aluImm .sbc n8, ?_, ?_⟩⟩
  · rw [exec_alu, State.alu, State.aluWith_sub]
  · rw [exec_alu, State.alu, State.aluWith_sbc, State.touch_f]
  · rw [exec_aluImm, State.aluWith_sub]
  · rw [exec_aluImm, State.aluWith_sbc]

/-- Settles O14: A is kept, and the flags are those of the difference. -/
theorem compareSetsFlagsOnly : Obligations.CompareSetsFlagsOnly := by
  refine ⟨fun s o => ⟨encode_alu .cp o, ?_, afterCompare_f s (s.val o)⟩, fun s n8 => ⟨encode_aluImm .cp n8, ?_⟩⟩
  · rw [exec_alu, State.alu, State.aluWith_cp]
  · rw [exec_aluImm, State.aluWith_cp]

end Sys2Proof.Machine
end

section
/-! PROOF of O16, O17 and O18. The model narrows an exact sum of words and adds a sign-extended offset; the spec's formulas
add words and integers (41_add16.md R150, R152): `add16_eq`, `add_sext` and `spFlags_addSp` say that these are the same. -/

namespace Sys2Proof

/-- ADD HL,r16 is the row z = 1, q = 1 of the x = 0 block, one opcode to a pair (R103). -/
theorem encode_addHL (p : Pair) : encode (.addHL p) = [0x09 + 16 * p.code] := by
  cases p <;> rfl

end Sys2Proof

namespace Sys2Proof.Machine

open Sys2Proof.Statements

theorem toNat_lowTwelveBits (v : Word) : (v &&& 0x0FFF).toNat = v.toNat % 4096 := by
  rw [BitVec.toNat_and]
  exact Nat.and_two_pow_sub_one_eq_mod v.toNat 12

/-- The sum narrowed to a word is the sum of words; both carries are those of the unbounded sums (R150). -/
theorem add16_eq (a b : Word) :
    add16 a b =
      (a + b, decide ((a &&& 0x0FFF).toNat + (b &&& 0x0FFF).toNat > 0x0FFF), decide (a.toNat + b.toNat > 0xFFFF)) := by
  rw [toNat_lowTwelveBits, toNat_lowTwelveBits, BitVec.add_def]
  rfl

/-- Adding a sign-extended byte wraps the integer sum with the byte read as signed. -/
theorem add_sext (w : Word) (v : Byte) : w + sext v = BitVec.ofInt 16 (w.toNat + v.toInt) := by
  rw [BitVec.ofInt_add, BitVec.ofInt_natCast, BitVec.ofNat_toNat, BitVec.setWidth_eq]
  rfl

/-- The flags of SP + e8 are the carries of the unsigned addition of the low bytes (R152). -/
theorem spFlags_addSp (sp : Word) (e8 : Byte) : spFlags (addSp sp e8) = offsetFlags sp e8 := by
  rw [offsetFlags, toNat_lowNibble, toNat_lowNibble]
  rfl

/-- Settles O16: the model's 16-bit sum and carries are the spec's, and Z is copied. -/
theorem addPairToHl : Obligations.AddPairToHl := by
  intro s p
  refine ⟨encode_addHL p, ?_⟩
  rw [exec_addHL, State.addHL, add16_eq]
  rfl

/-- Settles O17: the sum is the integer one wrapped, and the flags look at the low bytes alone. -/
theorem addOffsetToSp : Obligations.AddOffsetToSp := by
  intro s e8
  refine ⟨rfl, ?_⟩
  rw [← add_sext, ← spFlags_addSp]
  rfl

/-- Settles O18: as for ADD SP,e8, with the halves of the sum in H and L. -/
theorem loadHlWithSpOffset : Obligations.LoadHlWithSpOffset := by
  intro s e8
  refine ⟨rfl, ?_⟩
  rw [← add_sext, ← spFlags_addSp]
  rfl

end Sys2Proof.Machine
end

section
/-! PROOF of O15. Every form of AND, XOR and OR is one bitwise operation of A and the operand, with the family's one
flag rule (42_bitwise.md R160). -/

namespace Sys2Proof.Machine

open Sys2Proof.Statements

/-- The model's flags of a bitwise result are those of R160. -/
theorem afterBitwise_eq (s : State) (r : Byte) (h : Bool) :
    afterBitwise s r h = { s with a := r, f := logicFlags r h } := by
  rw [logicFlags, beq_eq_decide]
  rfl

section
variable (s : State) (v : Byte)

theorem State.aluWith_and : s.aluWith .and v = afterBitwise s (s.a &&& v) true := (afterBitwise_eq s _ true).symm

theorem State.aluWith_xor : s.aluWith .xor v = afterBitwise s (s.a ^^^ v) false := (afterBitwise_eq s _ false).symm

theorem State.aluWith_or : s.aluWith .or v = afterBitwise s (s.a ||| v) false := (afterBitwise_eq s _ false).symm

end

/-- Settles O15: each form answers `aluWith` of the state after the operand is read, and that is `afterBitwise`;
reading the operand leaves A. -/
theorem bitwiseOperations : Obligations.BitwiseOperations := by
  refine ⟨fun s o => ⟨encode_alu .and o, encode_alu .xor o, encode_alu .or o, ?_, ?_, ?_⟩,
    fun s n8 => ⟨encode_aluImm .and n8, encode_aluImm .xor n8, encode_aluImm .or n8, ?_, ?_, ?_⟩⟩
  · rw [exec_alu, State.alu, State.aluWith_and, State.touch_a]
  · rw [exec_alu, State.alu, State.aluWith_xor, State.touch_a]
  · rw [exec_alu, State.alu, State.aluWith_or, State.touch_a]
  · rw [exec_aluImm, State.aluWith_and]
  · rw [exec_aluImm, State.aluWith_xor]
  · rw [exec_aluImm, State.aluWith_or]

end Sys2Proof.Machine
end

section
/-! PROOF of O19 and O20. The model increments and decrements bytes and words; the spec's formulas look at the operand
before it moves and at the two registers of a pair (43_incdec.md R175 to R180): `incResult_eq` and `decResult_eq`,
`join_add_one` and `join_sub_one` say that these are the same. -/

namespace Sys2Proof

/-! ### Encodings (R103) -/

theorem encode_inc (o : Operand8) : encode (.inc o) = [0x04 + 8 * o.code] := by
  cases o with | memHL => rfl | reg r => cases r <;> rfl

theorem encode_dec (o : Operand8) : encode (.dec o) = [0x05 + 8 * o.code] := by
  cases o with | memHL => rfl | reg r => cases r <;> rfl

theorem encode_incPair (p : Pair) : encode (.incPair p) = [0x03 + 16 * p.code] := by
  cases p <;> rfl

theorem encode_decPair (p : Pair) : encode (.decPair p) = [0x0B + 16 * p.code] := by
  cases p <;> rfl

end Sys2Proof

namespace Sys2Proof.Machine

/-! ### The byte and its flags -/

theorem lowNibble_eq_iff (v k : Byte) : v &&& 0xF = k ↔ v.toNat % 16 = k.toNat := by
  rw [← toNat_lowNibble, BitVec.toNat_inj]

/-- The result is 0 after the highest byte, and the low nibble wraps after its highest value (R175). -/
theorem incResult_eq (v : Byte) (f : Flags) :
    incResult v f =
      (v + 1, { z := decide (v = 0xFF), n := false, h := decide (v.toNat % 16 = 15), c := f.c }) := by
  have zero : v + 1 = 0 ↔ v = 0xFF := by bv_omega
  have wraps : v &&& 0xF = 0xF ↔ v.toNat % 16 = 15 := lowNibble_eq_iff v 0xF
  simp only [incResult, beq_eq_decide, zero, wraps]

/-- The result is 0 after 1, and the low nibble borrows when it is 0 (R177). -/
theorem decResult_eq (v : Byte) (f : Flags) :
    decResult v f =
      (v - 1, { z := decide (v = 0x01), n := true, h := decide (v.toNat % 16 = 0), c := f.c }) := by
  have zero : v - 1 = 0 ↔ v = 0x01 := by bv_omega
  have borrows : v &&& 0xF = 0x0 ↔ v.toNat % 16 = 0 := lowNibble_eq_iff v 0x0
  simp only [decResult, beq_eq_decide, zero, borrows]

/-! ### The halves of a word -/

theorem toNat_join (h l : Byte) : (join h l).toNat = h.toNat * 256 + l.toNat := by
  rw [join, BitVec.toNat_append, ← Nat.shiftLeft_add_eq_or_of_lt l.isLt, Nat.shiftLeft_eq]

/-- The carry into the high byte is the wrap of the low one (R179). -/
theorem join_add_one (h l : Byte) : join h l + 1 = join (if l = 0xFF then h + 1 else h) (l + 1) := by
  apply BitVec.eq_of_toNat_eq
  rw [BitVec.toNat_add, toNat_join, toNat_join]
  split <;> bv_omega

/-- The borrow from the high byte is the wrap of the low one (R180). -/
theorem join_sub_one (h l : Byte) : join h l - 1 = join (if l = 0x00 then h - 1 else h) (l - 1) := by
  apply BitVec.eq_of_toNat_eq
  rw [BitVec.toNat_sub, toNat_join, toNat_join]
  split <;> bv_omega

section
variable (s : State) (h l : Byte)

theorem State.setPair_bc_join : s.setPair .bc (join h l) = { s with b := h, c := l } := by
  rw [State.setPair, State.setBC, hi, lo, join, high_of_word, low_of_word]

theorem State.setPair_de_join : s.setPair .de (join h l) = { s with d := h, e := l } := by
  rw [State.setPair, State.setDE, hi, lo, join, high_of_word, low_of_word]

theorem State.setPair_hl_join : s.setPair .hl (join h l) = { s with h := h, l := l } := by
  rw [State.setPair, State.setHL, hi, lo, join, high_of_word, low_of_word]

end

/-! ### The instructions -/

/-- Settles O19: both write the operand in place, and the result and flags are those of the operand before. -/
theorem incAndDecByte : Obligations.IncAndDecByte := by
  intro s o
  refine ⟨encode_inc o, encode_dec o, ?_, ?_⟩
  · rw [exec_inc, State.inc, incResult_eq, State.modify]
  · rw [exec_dec, State.dec, decResult_eq, State.modify]

/-- Settles O20: the carry and the borrow between the halves, pair by pair; SP moves as a whole. -/
theorem incAndDecPair : Obligations.IncAndDecPair := by
  intro s
  refine ⟨fun p => ⟨encode_incPair p, encode_decPair p⟩,
    ?_, ?_, ?_, exec_incPair .sp s, ?_, ?_, ?_, exec_decPair .sp s⟩
  · rw [exec_incPair, State.incPair, State.getPair, State.bc, join_add_one, State.setPair_bc_join]
  · rw [exec_incPair, State.incPair, State.getPair, State.de, join_add_one, State.setPair_de_join]
  · rw [exec_incPair, State.incPair, State.getPair, State.hl, join_add_one, State.setPair_hl_join]
  · rw [exec_decPair, State.decPair, State.getPair, State.bc, join_sub_one, State.setPair_bc_join]
  · rw [exec_decPair, State.decPair, State.getPair, State.de, join_sub_one, State.setPair_de_join]
  · rw [exec_decPair, State.decPair, State.getPair, State.hl, join_sub_one, State.setPair_hl_join]

end Sys2Proof.Machine
end

section
/-! PROOF of O21 to O24. The model rotates and shifts by moving a byte and setting one bit of it; the spec's formulas
rotate, cut and join it (44_rotate_shift.md R190): `rotate_eq_shifted` says, row by row, that these are the same. -/

namespace Sys2Proof

/-- The rotates and shifts are the x = 0 block of the CB table, eight operands to a row (R107). -/
theorem encode_rot (op : RotOp) (o : Operand8) : encode (.rot op o) = [0xCB, 8 * op.code + o.code] := by
  rw [rot_eq_cbRow, encode_cbRow]

end Sys2Proof

namespace Sys2Proof.Machine

open Sys2Proof.Statements

/-! ### Moved bytes as joined pieces -/

theorem bit0_eq_append (b : Bool) : bit0 b = 0#7 ++ BitVec.ofBool b := by
  cases b <;> rfl

theorem bit7_eq_append (b : Bool) : bit7 b = BitVec.ofBool b ++ 0#7 := by
  cases b <;> rfl

section
variable (v : Byte)

theorem extractLsb'_one_bit (k : Nat) : v.extractLsb' k 1 = BitVec.ofBool (v.getLsbD k) := by
  ext i hi
  obtain rfl : i = 0 := by omega
  simp

theorem shiftRight_seven : v >>> 7 = bit0 v.msb := by
  rw [bit0_eq_append, BitVec.msb_eq_getLsbD_last, ← extractLsb'_one_bit]
  exact BitVec.ushiftRight_eq_extractLsb'_of_lt (by decide)

theorem shiftLeft_seven : v <<< 7 = bit7 (v.getLsbD 0) := by
  rw [bit7_eq_append, ← extractLsb'_one_bit]
  exact BitVec.shiftLeft_eq_concat_of_lt (by decide)

/-- Moving left leaves room for a bit at the low end (R199). -/
theorem shiftLeft_or_bit0 (b : Bool) : v <<< 1 ||| bit0 b = v.extractLsb' 0 7 ++ BitVec.ofBool b := by
  have up : v <<< 1 = v.extractLsb' 0 7 ++ 0#1 := BitVec.shiftLeft_eq_concat_of_lt (by decide)
  rw [up, bit0_eq_append, BitVec.or_append, BitVec.or_zero, BitVec.zero_or]

/-- Moving right leaves room for a bit at the high end (R201). -/
theorem shiftRight_or_bit7 (b : Bool) : v >>> 1 ||| bit7 b = BitVec.ofBool b ++ v.extractLsb' 1 7 := by
  have down : v >>> 1 = 0#1 ++ v.extractLsb' 1 7 := BitVec.ushiftRight_eq_extractLsb'_of_lt (by decide)
  rw [down, bit7_eq_append, BitVec.or_append, BitVec.or_zero, BitVec.zero_or]

theorem shiftLeft_or_shiftRight_four : v <<< 4 ||| v >>> 4 = v.extractLsb' 0 4 ++ v.extractLsb' 4 4 := by
  have up : v <<< 4 = v.extractLsb' 0 4 ++ 0#4 := BitVec.shiftLeft_eq_concat_of_lt (by decide)
  have down : v >>> 4 = 0#4 ++ v.extractLsb' 4 4 := BitVec.ushiftRight_eq_extractLsb'_of_lt (by decide)
  rw [up, down, BitVec.or_append, BitVec.or_zero, BitVec.zero_or]

theorem rotateLeft_one : v.rotateLeft 1 = v <<< 1 ||| bit0 v.msb := by
  rw [← shiftRight_seven]
  exact BitVec.rotateLeft_def

theorem rotateRight_one : v.rotateRight 1 = v >>> 1 ||| bit7 (v.getLsbD 0) := by
  rw [← shiftLeft_seven]
  exact BitVec.rotateRight_def

/-- The arithmetic shift moves right and keeps the sign bit in place (R205). -/
theorem sshiftRight_one : v.sshiftRight 1 = v >>> 1 ||| bit7 v.msb := by
  rw [shiftRight_or_bit7]
  ext i hi
  rw [BitVec.getElem_sshiftRight, BitVec.getElem_append]
  split
  · rw [dif_pos (by omega), BitVec.getElem_extractLsb', BitVec.getLsbD_eq_getElem]
  · rw [dif_neg (by omega), BitVec.getElem_ofBool]

theorem and_signBit : v &&& 0x80 = bit7 v.msb :=
  BitVec.and_twoPow v 7

theorem shiftLeft_one_eq_add_self : v <<< 1 = v + v := by
  rw [BitVec.shiftLeft_eq_mul_twoPow]
  exact BitVec.mul_two

theorem shiftRight_one_eq_half : v >>> 1 = BitVec.ofNat 8 (v.toNat / 2) := by
  bv_omega

end

/-- The model's table of R190 is the spec's. -/
theorem rotate_eq_shifted (op : RotOp) (v : Byte) (cin : Bool) : rotate op v cin = shifted op v cin := by
  have top : v.getLsbD 7 = v.msb := (BitVec.msb_eq_getLsbD_last v).symm
  cases op with
  | rlc => rw [rotate, shifted, top, rotateLeft_one]
  | rrc => rw [rotate, shifted, rotateRight_one]
  | rl => rw [rotate, shifted, top, shiftLeft_or_bit0]
  | rr => rw [rotate, shifted, shiftRight_or_bit7]
  | sla => rw [rotate, shifted, top, shiftLeft_one_eq_add_self]
  | sra => rw [rotate, shifted, and_signBit, sshiftRight_one]
  | swap => rw [rotate, shifted, shiftLeft_or_shiftRight_four]
  | srl => rw [rotate, shifted, shiftRight_one_eq_half]

/-! ### The instructions -/

theorem State.rotA_eq (s : State) (op : RotOp) :
    s.rotA op = { s with
      a := (shifted op s.a s.f.c).1
      f := { z := false, n := false, h := false, c := (shifted op s.a s.f.c).2 } } := by
  rw [State.rotA, rotate_eq_shifted, accRotFlags]

theorem exec_rot_eq_afterShift (op : RotOp) (o : Operand8) (s : State) :
    exec (.rot op o) s = .next (afterShift s o (shifted op (s.val o) s.f.c)) := by
  rw [exec_rot, State.rot, rotate_eq_shifted, rotFlags, beq_eq_decide, State.modify, afterShift]

/-- Settles O21: each form answers `rotA`, which clears Z whatever the result. -/
theorem accumulatorRotates : Obligations.AccumulatorRotates := by
  refine ⟨rfl, rfl, rfl, rfl, fun s => ?_⟩
  simp only [List.forall_mem_cons, ← State.rotA_eq]
  exact ⟨rfl, rfl, rfl, rfl, nofun⟩

/-- Settles O22: `afterShift` is what any operation of the table answers, these four among them. -/
theorem cbRotates : Obligations.CbRotates :=
  fun s o op _ => ⟨encode_rot op o, exec_rot_eq_afterShift op o s⟩

/-- Settles O23: as O22, for the other four operations of the table. -/
theorem cbShiftsAndSwap : Obligations.CbShiftsAndSwap :=
  fun s o op _ => ⟨encode_rot op o, exec_rot_eq_afterShift op o s⟩

/-! ### Rotations of any width, one after another -/

section
variable {w : Nat} (v : BitVec w)

/-- Rotating left moves every bit's distance from the top, modulo the width. -/
theorem rotateLeft_rotateLeft (m n : Nat) : (v.rotateLeft m).rotateLeft n = v.rotateLeft (m + n) := by
  refine BitVec.eq_of_getMsbD_eq fun i hi => ?_
  have inside : (n + i) % w < w := Nat.mod_lt _ (Nat.zero_lt_of_lt hi)
  simp [BitVec.getMsbD_rotateLeft, inside, hi, Nat.add_assoc]

theorem rotateLeft_width : v.rotateLeft w = v := by
  refine BitVec.eq_of_getMsbD_eq fun i hi => ?_
  simp [BitVec.getMsbD_rotateLeft, hi, Nat.mod_eq_of_lt]

theorem getLsbD_rotateLeft_one {k : Nat} (lt : k + 1 < w) : (v.rotateLeft 1).getLsbD (k + 1) = v.getLsbD k := by
  rw [BitVec.getLsbD_rotateLeft_of_le (by omega)]
  simp [lt]

end

/-! ### RLC again and again -/

/-- What is written to the operand reads back: it is a register, or a byte of plain memory in canonical form. -/
structure State.ReadsBack (s : State) (o : Operand8) : Prop where
  wf : Memory.wf s.mem = true
  plain : o = .memHL → s.kindAt s.hl = .ram

section
variable {s : State} {o : Operand8} (back : s.ReadsBack o) (v : Byte) (f : Flags)
include back

theorem State.ReadsBack.val_modify : (s.modify o v f).val o = v := by
  cases o with
  | reg r => cases r <;> rfl
  | memHL => exact State.peek_store_self (s := s.noteRead s.hl) v (back.plain rfl) back.wf

theorem State.ReadsBack.modify : (s.modify o v f).ReadsBack o where
  wf := State.wf_put (s := s.touch o) o v (by rw [State.touch_mem, back.wf])
  plain := by
    rintro rfl
    exact back.plain rfl

end

theorem runAll_cons {i : Instr} {s t : State} (is : List Instr) (h : exec i s = .next t) :
    runAll (i :: is) s = runAll is t := by
  rw [runAll, h]

/-- One RLC, as a rotation in place (R195, R196). -/
theorem exec_rlc (s : State) (o : Operand8) :
    ∃ f : Flags, f.c = (s.val o).getLsbD 7 ∧
      exec (.rot .rlc o) s = .next (s.modify o ((s.val o).rotateLeft 1) f) :=
  ⟨_, rfl, by rw [exec_rot, State.rot, rotate_eq_shifted, shifted]⟩

/-- The first RLC leaves an operand that reads back, rotated by one, and the rest rotate that. -/
theorem runAll_rlc {n : Nat} (pos : 1 ≤ n) (le : n ≤ 8) {s : State} {o : Operand8} (back : s.ReadsBack o) :
    ∃ t, runAll (List.replicate n (.rot .rlc o)) s = .next t ∧
      t.val o = (s.val o).rotateLeft n ∧ t.f.c = (s.val o).getLsbD (8 - n) := by
  induction n, pos using Nat.le_induction generalizing s with
  | base =>
    obtain ⟨f, carry, run⟩ := exec_rlc s o
    exact ⟨_, runAll_cons [] run, back.val_modify _ f, carry⟩
  | succ n pos ih =>
    obtain ⟨f, -, run⟩ := exec_rlc s o
    obtain ⟨t, runs, value, carry⟩ := ih (by omega) (back.modify ((s.val o).rotateLeft 1) f)
    rw [back.val_modify] at value carry
    refine ⟨t, (runAll_cons _ run).trans runs, ?_, ?_⟩
    · rw [value, rotateLeft_rotateLeft, Nat.add_comm]
    · rw [carry, show 8 - n = 8 - (n + 1) + 1 by omega, getLsbD_rotateLeft_one _ (by omega)]

/-- Settles O24, by induction on the number of executions; eight rotate by the width of the byte. -/
theorem rlcEightTimesRestores : Obligations.RlcEightTimesRestores := by
  intro s o n wf plain pos le
  obtain ⟨t, runs, value, carry⟩ := runAll_rlc pos le ⟨wf, plain⟩
  refine ⟨t, runs, value, carry, ?_⟩
  rintro rfl
  exact value.trans (rotateLeft_width _)

end Sys2Proof.Machine
end

section
/-! PROOF of O25 and O26. The model tests a bit by its position and clears and sets it by a mask; the spec's statements
mask to test, and name the bits one by one to clear and set (45_bitops.md R220 to R225). Every such mask is a
`BitVec.twoPow`, whose bits the library knows. -/

namespace Sys2Proof

/-! ### Encodings: BIT, RES and SET are the x = 1, 2, 3 blocks of the CB table (R107) -/

theorem encode_bit (b : Fin 8) (o : Operand8) :
    encode (.bit b o) = [0xCB, 0x40 + 8 * BitVec.ofNat 8 b.val + o.code] := by
  rw [bit_eq_cbRow, encode_cbRow]

theorem encode_res (b : Fin 8) (o : Operand8) :
    encode (.res b o) = [0xCB, 0x80 + 8 * BitVec.ofNat 8 b.val + o.code] := by
  rw [res_eq_cbRow, encode_cbRow]

theorem encode_set (b : Fin 8) (o : Operand8) :
    encode (.set b o) = [0xCB, 0xC0 + 8 * BitVec.ofNat 8 b.val + o.code] := by
  rw [set_eq_cbRow, encode_cbRow]

end Sys2Proof

namespace Sys2Proof.Machine

/-! ### One bit of a byte -/

/-- The mask with bit `k` alone: the spec shifts a number and narrows it, which is the library's power of two. -/
theorem narrowed_shift_eq_twoPow (k : Nat) : ((1 <<< k : Nat) : Byte) = BitVec.twoPow 8 k := by
  apply BitVec.eq_of_toNat_eq
  rw [BitVec.natCast_eq_ofNat, BitVec.toNat_ofNat, BitVec.toNat_twoPow, Nat.one_shiftLeft]

theorem twoPow_ne_zero {k : Nat} (lt : k < 8) : BitVec.twoPow 8 k ≠ 0 := fun blank => by
  have bit : (BitVec.twoPow 8 k).getLsbD k = true := by simp [lt]
  simp [blank] at bit

section
variable (b : Fin 8) (v : Byte)

/-- The masked byte is 0 exactly when its bit `b` is 0 (R220). -/
theorem and_mask_eq_zero_iff : v &&& (1 <<< b.val) = 0 ↔ v.getLsbD b.val = false := by
  rw [narrowed_shift_eq_twoPow, BitVec.and_twoPow]
  cases v.getLsbD b.val with
  | false => simp
  | true => simpa using twoPow_ne_zero b.isLt

/-- The model's flags of BIT are those of R220. -/
theorem bitFlags_eq (f : Flags) :
    bitFlags b v f = { z := decide (v &&& (1 <<< b.val) = 0), n := false, h := true, c := f.c } := by
  simp only [bitFlags, and_mask_eq_zero_iff, Bool.decide_eq_false]

theorem resBit_eq_and_not_twoPow : resBit b v = v &&& ~~~BitVec.twoPow 8 b.val := rfl

theorem setBit_eq_or_twoPow : setBit b v = v ||| BitVec.twoPow 8 b.val := rfl

variable {k : Nat} (lt : k < 8)
include lt

theorem getLsbD_twoPow_val : (BitVec.twoPow 8 b.val).getLsbD k = decide (k = b.val) := by
  rw [BitVec.getLsbD_eq_getElem lt, BitVec.getElem_twoPow]

/-- RES clears bit `b` and keeps the others (R222). -/
theorem getLsbD_resBit : (resBit b v).getLsbD k = if k = b.val then false else v.getLsbD k := by
  rw [resBit_eq_and_not_twoPow, BitVec.getLsbD_and, BitVec.getLsbD_not, getLsbD_twoPow_val b lt]
  by_cases here : k = b.val <;> simp [here, lt]

/-- SET sets bit `b` and keeps the others (R224). -/
theorem getLsbD_setBit : (setBit b v).getLsbD k = if k = b.val then true else v.getLsbD k := by
  rw [setBit_eq_or_twoPow, BitVec.getLsbD_or, getLsbD_twoPow_val b lt]
  by_cases here : k = b.val <;> simp [here]

end

/-! ### The instructions -/

/-- Settles O25: BIT reads the operand and writes the flags, and those are the spec's. -/
theorem bitTest : Obligations.BitTest := by
  intro s b o
  refine ⟨encode_bit b o, ?_⟩
  rw [exec_bit, State.bit, bitFlags_eq]

/-- Settles O26: the byte written back is `resBit` or `setBit` of the operand, bit by bit as the rules say. -/
theorem resAndSet : Obligations.ResAndSet := fun s b o =>
  ⟨encode_res b o, encode_set b o,
    ⟨_, exec_res b o s, fun _ => getLsbD_resBit b (s.val o)⟩,
    ⟨_, exec_set b o s, fun _ => getLsbD_setBit b (s.val o)⟩⟩

end Sys2Proof.Machine
end

section
/-! PROOF of O27, O28 and O29. DAA joins its corrections 0x06 and 0x60; they have no bit in common, so together they
are the sum that the spec's formula writes (46_daa_misc.md R230). After a sum or a difference of packed BCD bytes each
of the two is made exactly when its decimal digit carries or borrows, which is the BCD property (R234). -/

namespace Sys2Proof.Machine

open Sys2Proof.Statements

/-! ### DAA -/

section
variable (a : Byte) (f : Flags)

/-- The corrections joined are the corrections added. -/
theorem toNat_daaAdjust :
    (daaAdjust a f).toNat = (if daaLow a f then 0x06 else 0x00) + (if daaHigh a f then 0x60 else 0x00) := by
  unfold daaAdjust
  cases daaLow a f <;> cases daaHigh a f <;> rfl

theorem daaResult_f :
    (daaResult a f).2 = { z := decide ((daaResult a f).1 = 0), n := f.n, h := false, c := daaHigh a f } := by
  rw [← beq_eq_decide]
  rfl

variable {a f}

theorem daaLow_iff_of_add (add : f.n = false) : daaLow a f = true ↔ f.h = true ∨ 9 < a.toNat % 16 := by
  simp [daaLow, add]

theorem daaHigh_iff_of_add (add : f.n = false) : daaHigh a f = true ↔ f.c = true ∨ 0x99 < a.toNat := by
  simp [daaHigh, add]

theorem daaLow_of_sub (sub : f.n = true) : daaLow a f = f.h := by
  simp [daaLow, sub]

theorem daaHigh_of_sub (sub : f.n = true) : daaHigh a f = f.c := by
  simp [daaHigh, sub]

theorem toNat_daaResult_of_add (add : f.n = false) :
    (daaResult a f).1.toNat =
      (a.toNat + (if daaLow a f then 0x06 else 0x00) + (if daaHigh a f then 0x60 else 0x00)) % 256 := by
  have sum : (daaResult a f).1 = a + daaAdjust a f := by simp [daaResult, add]
  rw [sum, BitVec.toNat_add, toNat_daaAdjust, Nat.add_assoc]

theorem toNat_daaResult_of_sub (sub : f.n = true) :
    (daaResult a f).1.toNat =
      (a.toNat + 256 - (if f.h then 0x06 else 0x00) - (if f.c then 0x60 else 0x00)) % 256 := by
  have difference : (daaResult a f).1 = a - daaAdjust a f := by simp [daaResult, sub]
  rw [difference, BitVec.toNat_sub, toNat_daaAdjust, daaLow_of_sub sub, daaHigh_of_sub sub]
  split <;> split <;> omega

variable (a f)

/-- The model's result and carry are those of the two branches of R230. -/
theorem decimalAdjusted_eq : decimalAdjusted a f = ((daaResult a f).1, daaHigh a f) := by
  cases n : f.n with
  | false =>
    refine Prod.ext (BitVec.eq_of_toNat_eq ?_) (by simp [decimalAdjusted, daaHigh, n])
    rw [toNat_daaResult_of_add n]
    simp only [decimalAdjusted, n, if_true, toNat_lowNibble, daaLow_iff_of_add n, daaHigh_iff_of_add n,
      BitVec.toNat_ofNat]
  | true =>
    refine Prod.ext (BitVec.eq_of_toNat_eq ?_) (by simp [decimalAdjusted, daaHigh, n])
    rw [toNat_daaResult_of_sub n]
    simp [decimalAdjusted, n]

end

theorem exec_daa (s : State) :
    exec .daa s = .next { s with a := (daaResult s.a s.f).1, f := (daaResult s.a s.f).2 } := rfl

/-- Settles O27: the model's byte and carry are the spec's, and Z tests that byte. -/
theorem decimalAdjust : Obligations.DecimalAdjust := by
  refine ⟨rfl, fun s => ?_⟩
  rw [decimalAdjusted_eq, exec_daa, daaResult_f]

/-! ### DAA after a sum or a difference of packed BCD bytes -/

/-- `v` is packed BCD with the tens `x` and the units `y`. -/
structure HasDigits (v : Byte) (x y : Nat) : Prop where
  tens_lt : x < 10
  units_lt : y < 10
  toNat_eq : v.toNat = 16 * x + y

theorem packedBcd_hasDigits {n : Nat} (lt : n < 100) : ∃ x y, n = 10 * x + y ∧ HasDigits (packedBcd n) x y := by
  refine ⟨n / 10, n % 10, by omega, by omega, by omega, ?_⟩
  rw [packedBcd, BitVec.toNat_ofNat]
  omega

theorem HasDigits.eq_packedBcd {v : Byte} {x y : Nat} (h : HasDigits v x y) : v = packedBcd (10 * x + y) := by
  obtain ⟨hx, hy, xy⟩ := h
  apply BitVec.eq_of_toNat_eq
  rw [xy, packedBcd, BitVec.toNat_ofNat]
  omega

/-- Adding decimal digits with a carry: `q` is the digit written and `cout` the carry out. -/
structure DigitSum (y v : Nat) (cin : Bool) (q : Nat) (cout : Bool) : Prop where
  digit_lt : q < 10
  sum_eq : y + v + cin.toNat = 10 * cout.toNat + q

/-- Subtracting decimal digits with a borrow: `q` is the digit written and `bout` the borrow out. -/
structure DigitDifference (y v : Nat) (bin : Bool) (q : Nat) (bout : Bool) : Prop where
  digit_lt : q < 10
  difference_eq : y + 10 * bout.toNat = v + bin.toNat + q

section
variable {y v : Nat} (hy : y < 10) (hv : v < 10) (cin : Bool)
include hy hv

theorem exists_digitSum : ∃ q cout, DigitSum y v cin q cout := by
  have carry := cin.toNat_le
  by_cases carries : 9 < y + v + cin.toNat
  · exact ⟨y + v + cin.toNat - 10, true, by omega, by rw [Bool.toNat_true]; omega⟩
  · exact ⟨y + v + cin.toNat, false, by omega, by rw [Bool.toNat_false]; omega⟩

theorem exists_digitDifference : ∃ q bout, DigitDifference y v cin q bout := by
  have carry := cin.toNat_le
  by_cases borrows : y < v + cin.toNat
  · exact ⟨y + 10 - v - cin.toNat, true, by omega, by rw [Bool.toNat_true]; omega⟩
  · exact ⟨y - v - cin.toNat, false, by omega, by rw [Bool.toNat_false]; omega⟩

end

/-- The difference of bytes stays natural with 512 added, a multiple of the modulus. -/
theorem toNat_sub8 (a b : Byte) (cin : Bool) :
    (sub8 a b cin).1.toNat = (a.toNat + 512 - b.toNat - cin.toNat) % 256 := by
  rw [sub8_eq, ← toNat_carryIn]
  bv_omega

/-- A correction as a multiple of its carry. -/
theorem ite_eq_mul_toNat (n : Nat) (b : Bool) : (if b then n else 0) = n * b.toNat := by
  cases b <;> simp

section
variable {a b : Byte} {x y u v p q : Nat} {cin half full : Bool}

/-- A carry of ten out of a digit is worth six less than the sixteen of a nibble: the sum of the bytes is
`256 * full + 16 * p + q` less `6 * half + 96 * full`, and this is what DAA adds. -/
theorem daa_sum : HasDigits a x y → HasDigits b u v →
    DigitSum y v cin q half → DigitSum x u half p full →
    daaHigh (add8 a b cin).1 (sumFlags (add8 a b cin)) = full ∧
      HasDigits (daaResult (add8 a b cin).1 (sumFlags (add8 a b cin))).1 p q := by
  rintro ⟨hx, hy, xy⟩ ⟨hu, hv, uv⟩ ⟨hq, units⟩ ⟨hp, tens⟩
  have carry := cin.toNat_le
  have carryHalf := half.toNat_le
  have carryFull := full.toNat_le
  have low : daaLow (add8 a b cin).1 (sumFlags (add8 a b cin)) = half := by
    rw [Bool.eq_iff_iff, daaLow_iff_of_add rfl, ← half.toNat_eq_one]
    simp only [sumFlags, add8, xy, uv, BitVec.toNat_ofNat, decide_eq_true_eq]
    omega
  have high : daaHigh (add8 a b cin).1 (sumFlags (add8 a b cin)) = full := by
    rw [Bool.eq_iff_iff, daaHigh_iff_of_add rfl, ← full.toNat_eq_one]
    simp only [sumFlags, add8, xy, uv, BitVec.toNat_ofNat, decide_eq_true_eq]
    omega
  refine ⟨high, hp, hq, ?_⟩
  rw [toNat_daaResult_of_add rfl, low, high, ite_eq_mul_toNat, ite_eq_mul_toNat]
  simp only [add8, xy, uv, BitVec.toNat_ofNat]
  omega

/-- A borrow of ten is worth six less than the sixteen of a nibble: DAA takes `6 * half + 96 * full` away. -/
theorem daa_difference : HasDigits a x y → HasDigits b u v →
    DigitDifference y v cin q half → DigitDifference x u half p full →
    daaHigh (sub8 a b cin).1 (diffFlags (sub8 a b cin)) = full ∧
      HasDigits (daaResult (sub8 a b cin).1 (diffFlags (sub8 a b cin))).1 p q := by
  rintro ⟨hx, hy, xy⟩ ⟨hu, hv, uv⟩ ⟨hq, units⟩ ⟨hp, tens⟩
  have carry := cin.toNat_le
  have carryHalf := half.toNat_le
  have carryFull := full.toNat_le
  have low : (sub8 a b cin).2.1 = half := by
    rw [sub8_eq, Bool.eq_iff_iff, ← half.toNat_eq_one, decide_eq_true_eq, toNat_lowNibble, toNat_lowNibble]
    omega
  have high : (sub8 a b cin).2.2 = full := by
    rw [sub8_eq, Bool.eq_iff_iff, ← full.toNat_eq_one, decide_eq_true_eq]
    omega
  refine ⟨(daaHigh_of_sub rfl).trans high, hp, hq, ?_⟩
  rw [toNat_daaResult_of_sub rfl, ite_eq_mul_toNat, ite_eq_mul_toNat]
  simp only [diffFlags, toNat_sub8, low, high]
  omega

end

section
variable {da db : Nat} (ha : da < 100) (hb : db < 100) (cin : Bool)
include ha hb

theorem daa_sum_packedBcd :
    (daaResult (add8 (packedBcd da) (packedBcd db) cin).1 (sumFlags (add8 (packedBcd da) (packedBcd db) cin))).1 =
        packedBcd ((da + db + cin.toNat) % 100) ∧
      daaHigh (add8 (packedBcd da) (packedBcd db) cin).1 (sumFlags (add8 (packedBcd da) (packedBcd db) cin)) =
        decide (99 < da + db + cin.toNat) := by
  obtain ⟨x, y, rfl, ha⟩ := packedBcd_hasDigits ha
  obtain ⟨u, v, rfl, hb⟩ := packedBcd_hasDigits hb
  obtain ⟨q, half, units⟩ := exists_digitSum ha.units_lt hb.units_lt cin
  obtain ⟨p, full, tens⟩ := exists_digitSum ha.tens_lt hb.tens_lt half
  obtain ⟨high, digits⟩ := daa_sum ha hb units tens
  obtain ⟨hq, units⟩ := units
  obtain ⟨hp, tens⟩ := tens
  have carryFull := full.toNat_le
  refine ⟨digits.eq_packedBcd.trans (congrArg packedBcd (by omega)), high.trans ?_⟩
  rw [Bool.eq_iff_iff, ← full.toNat_eq_one, decide_eq_true_eq]
  omega

theorem daa_difference_packedBcd :
    (daaResult (sub8 (packedBcd da) (packedBcd db) cin).1 (diffFlags (sub8 (packedBcd da) (packedBcd db) cin))).1 =
        packedBcd ((da + 200 - db - cin.toNat) % 100) ∧
      daaHigh (sub8 (packedBcd da) (packedBcd db) cin).1 (diffFlags (sub8 (packedBcd da) (packedBcd db) cin)) =
        decide (da < db + cin.toNat) := by
  obtain ⟨x, y, rfl, ha⟩ := packedBcd_hasDigits ha
  obtain ⟨u, v, rfl, hb⟩ := packedBcd_hasDigits hb
  obtain ⟨q, half, units⟩ := exists_digitDifference ha.units_lt hb.units_lt cin
  obtain ⟨p, full, tens⟩ := exists_digitDifference ha.tens_lt hb.tens_lt half
  obtain ⟨high, digits⟩ := daa_difference ha hb units tens
  obtain ⟨hq, units⟩ := units
  obtain ⟨hp, tens⟩ := tens
  have carryFull := full.toNat_le
  refine ⟨digits.eq_packedBcd.trans (congrArg packedBcd (by omega)), high.trans ?_⟩
  rw [Bool.eq_iff_iff, ← full.toNat_eq_one, decide_eq_true_eq]
  omega

end

/-- After an accumulator operation in any form and DAA, A and C are what DAA makes of the operation's A and F. -/
theorem runAll_daa {op : AluOp} {a v r : Byte} {c : Bool} {s : State} {i : Instr} (h : combinesWith op v s i)
    (hs : s.a = a) (adjusted : (daaResult (aluResult op a v s.f).1 (aluResult op a v s.f).2).1 = r ∧
      daaHigh (aluResult op a v s.f).1 (aluResult op a v s.f).2 = c) :
    ∃ t, runAll [i, .daa] s = .next t ∧ t.a = r ∧ t.f.c = c ∧ t.f.z = decide (t.a = 0) := by
  obtain ⟨byte, carry⟩ := adjusted
  subst hs
  have adjusts (t : State) (ta : t.a = s.a) (tf : t.f = s.f) (run : exec i s = .next (t.aluWith op v)) :
      ∃ u, runAll [i, .daa] s = .next u ∧ u.a = r ∧ u.f.c = c ∧ u.f.z = decide (u.a = 0) := by
    rw [← ta, ← tf] at byte carry
    exact ⟨_, (runAll_cons _ run).trans (runAll_cons [] (exec_daa _)), byte, carry,
      congrArg Flags.z (daaResult_f _ _)⟩
  obtain ⟨o, rfl, rfl⟩ | rfl := h
  · exact adjusts (s.touch o) (s.touch_a o) (s.touch_f o) (exec_alu op o s)
  · exact adjusts s rfl rfl (exec_aluImm op v s)

/-- Settles O28: ADD and SUB are ADC and SBC without a carry coming in. -/
theorem daaGivesPackedBcd : Obligations.DaaGivesPackedBcd := fun s _ _ _ ha hb hs =>
  ⟨fun h => runAll_daa h hs (daa_sum_packedBcd ha hb s.f.c),
    fun h => runAll_daa h hs (daa_sum_packedBcd ha hb false),
    fun h => runAll_daa h hs (daa_difference_packedBcd ha hb s.f.c),
    fun h => runAll_daa h hs (daa_difference_packedBcd ha hb false)⟩

/-! ### CPL, SCF and CCF -/

/-- Settles O29: the complement of A is its exclusive or with 0xFF. -/
theorem complementAndCarryFlag : Obligations.ComplementAndCarryFlag := by
  refine ⟨rfl, rfl, rfl, fun s => ⟨?_, rfl, rfl⟩⟩
  rw [← BitVec.xor_allOnes]
  rfl

end Sys2Proof.Machine
end

section
/-! PROOF of O54. `exec` answers a next state for every instruction (`exec_controlAfter`), so a step stops only where
`step` itself answers the latched fault. -/

namespace Sys2Proof.Machine

/-- An asserted reset is the whole step (60_exceptions.md R318). -/
theorem step_of_reset {s : State} {g : ResetGpr} (hr : s.input.reset = some g) :
    step s = .next (s.beginStep.resetCore g) := by
  simp [step, hr]

/-- `exec` is a function: what an instruction answers is the one state that its meaning gives. -/
theorem exec_next_unique {i : Instr} {s t u : State} (e : exec i s = .next t) (meaning : exec i s = .next u) :
    t = u :=
  Host.Outcome.next.inj (e.symm.trans meaning)

theorem exec_completes (i : Instr) (s : State) : ∃ t, exec i s = .next t := by
  obtain ⟨t, run, -⟩ := exec_controlAfter i s
  exact ⟨t, run⟩

theorem runInstr_completes (s : State) : ∃ t, runInstr s = .next t := by
  unfold runInstr
  split
  · exact exec_completes _ _
  · obtain ⟨u, run⟩ := exec_completes s.fetched s.afterFetch
    rw [run]
    exact ⟨_, rfl⟩

theorem stepAwake_completes (s : State) : ∃ t, stepAwake s = .next t := by
  unfold stepAwake
  split
  · exact ⟨_, rfl⟩
  · split
    · exact ⟨_, rfl⟩
    · exact runInstr_completes _

/-- A step answers a next state, or no reset is asserted and a latched fault stops it (R301). -/
theorem step_completes_or_latched (s : State) :
    (∃ t, step s = .next t) ∨
    ∃ u, s.input.reset = none ∧ s.fault = some u ∧ step s = .fault (.unknownOpcode u.byte u.addr) := by
  cases hr : s.input.reset with
  | some g => exact .inl ⟨_, step_of_reset hr⟩
  | none =>
    cases hf : s.fault with
    | some u => exact .inr ⟨u, rfl, rfl, step_of_latched hr hf⟩
    | none =>
      rw [step_of_unlatched hr hf]
      exact .inl (stepAwake_completes s.beginStep)

/-- Settles O54: the latched fault is the one way in which a step does not answer a next state. -/
theorem everyInstructionCompletes : Obligations.EveryInstructionCompletes := by
  refine ⟨exec_completes, fun s unlatched => ?_, fun s r stops => ?_, fun s r stops => ?_⟩
  · obtain next | ⟨u, hr, hf, -⟩ := step_completes_or_latched s
    · exact next
    · simp [hr, hf] at unlatched
  · obtain ⟨t, next⟩ | ⟨u, -, hf, latched⟩ := step_completes_or_latched s
    · exact absurd (stops.symm.trans next) nofun
    · exact ⟨u, hf, Host.Outcome.fault.inj (stops.symm.trans latched)⟩
  · obtain ⟨t, next⟩ | ⟨u, -, -, latched⟩ := step_completes_or_latched s
    · exact absurd (stops.symm.trans next) nofun
    · exact absurd (stops.symm.trans latched) nofun

end Sys2Proof.Machine
end

section
/-! PROOF of O43: the bytes without an instruction (30_encoding.md R108; 48_system.md R266; 60_exceptions.md R305). -/

namespace Sys2Proof.Machine

open Sys2Proof.Statements

section
variable {b0 : Byte}

/-! ### The rows of the eleven bytes -/

theorem decodeRow_isIllegal_of_mem (b1 b2 : Byte) (h : b0 ∈ illegalBytes) :
    (decodeRow b0 b1 b2).isIllegal = true := by
  fin_cases h <;> rfl

theorem exec_decodeRow_of_mem (b1 b2 : Byte) (h : b0 ∈ illegalBytes) (s : State) :
    exec (decodeRow b0 b1 b2) s = .next (s.raiseUnknownOpcode b0) := by
  fin_cases h <;> rfl

theorem mem_illegalBytes_of_isIllegal {b1 b2 : Byte} (h : (decodeRow b0 b1 b2).isIllegal = true) :
    b0 ∈ illegalBytes :=
  (decodeRow_wf_eq_false_iff b0 b1 b2).mp (by simp [Instr.wf, h])

end

/-! ### Running the byte at PC -/

/-- A fetch meets an ILLEGAL row exactly at one of the eleven bytes. -/
theorem State.fetched_isIllegal_iff (s : State) : s.fetched.isIllegal = true ↔ s.peek s.pc ∈ illegalBytes :=
  ⟨mem_illegalBytes_of_isIllegal, decodeRow_isIllegal_of_mem _ _⟩

/-- Such a byte is read, and the latch takes it; nothing else happens (R305). -/
theorem runInstr_of_mem_illegalBytes {s : State} (h : s.peek s.pc ∈ illegalBytes) :
    runInstr s = .next ((s.noteRead s.pc).raiseUnknownOpcode (s.peek s.pc)) := by
  rw [runInstr, if_pos (s.fetched_isIllegal_iff.mpr h)]
  exact exec_decodeRow_of_mem _ _ h _

/-! ### Ticks -/

section
variable {s : State} (unit : Config.CycleUnit)

/-- A tick with no cycle owed is a step, and the cost less the tick is owed after it (70_reset_and_hazards.md R351). -/
theorem tick_of_no_debt (h : s.cycleDebt = 0) :
    tick unit s = mapNext (fun t => { t with cycleDebt := t.cost * unit.perMachineCycle - 1 }) (step s) :=
  if_pos (.inl h)

/-- An asserted reset does not wait for the cycles owed (R340). -/
theorem tick_of_reset {g : ResetGpr} (h : s.input.reset = some g) :
    tick unit s = mapNext (fun t => { t with cycleDebt := t.cost * unit.perMachineCycle - 1 }) (step s) :=
  if_pos (.inr (by simp [h]))

/-- Without reset a tick only counts a debt down (R351). -/
theorem tick_of_debt {n : Nat} (hr : s.input.reset = none) (h : s.cycleDebt = n + 1) :
    tick unit s = .next { s with cycleDebt := n } := by
  simp [tick, hr, h]

end

/-- Settles O43: the rows one by one, then a step that decodes one of the bytes, then the steps and ticks after it. -/
theorem unknownOpcodeLatches : Obligations.UnknownOpcodeLatches := by
  refine ⟨fun s p hp => ?_, fun s decodes byte => ?_, fun s u hf hr => ⟨step_of_latched hr hf, fun unit debt => ?_⟩⟩
  · fin_cases hp <;> exact ⟨rfl, rfl⟩
  · exact (step_of_decodesAtPC decodes).trans (runInstr_of_mem_illegalBytes (s := ready s) byte)
  · rw [tick_of_no_debt unit debt, step_of_latched hr hf]
    rfl

end Sys2Proof.Machine
end

section
/-! PROOF of O60: the table of cycle costs (70_reset_and_hazards.md R353), form by form. -/

namespace Sys2Proof.Machine

/-! ### Byte operands: a register, or the memory byte at HL -/

section
variable (r q : Reg8) (n8 : Byte)

theorem cycles_ldReg_reg : cycles (.ldReg r (.reg q)) = (1, 1) := by
  cases r <;> cases q <;> rfl

theorem cycles_ldReg_memHL : cycles (.ldReg r .memHL) = (2, 2) := by
  cases r <;> rfl

theorem cycles_ldStore : cycles (.ldStore r) = (2, 2) := by
  cases r <;> rfl

theorem cycles_ldImm_reg : cycles (.ldImm (.reg r) n8) = (2, 2) := by
  cases r <;> rfl

theorem cycles_inc_reg : cycles (.inc (.reg r)) = (1, 1) := by
  cases r <;> rfl

theorem cycles_dec_reg : cycles (.dec (.reg r)) = (1, 1) := by
  cases r <;> rfl

theorem cycles_alu_reg (op : AluOp) : cycles (.alu op (.reg r)) = (1, 1) := by
  cases op <;> cases r <;> rfl

theorem cycles_alu_memHL (op : AluOp) : cycles (.alu op .memHL) = (2, 2) := by
  cases op <;> rfl

theorem cycles_aluImm (op : AluOp) : cycles (.aluImm op n8) = (2, 2) := by
  cases op <;> rfl

/-! ### The CB table -/

theorem cycles_rot_reg (op : RotOp) : cycles (.rot op (.reg r)) = (2, 2) := by
  cases op <;> cases r <;> rfl

theorem cycles_rot_memHL (op : RotOp) : cycles (.rot op .memHL) = (4, 4) := by
  cases op <;> rfl

theorem cycles_bit_reg (b : Fin 8) : cycles (.bit b (.reg r)) = (2, 2) := by
  fin_cases b <;> cases r <;> rfl

theorem cycles_bit_memHL (b : Fin 8) : cycles (.bit b .memHL) = (3, 3) := by
  fin_cases b <;> rfl

theorem cycles_res_reg (b : Fin 8) : cycles (.res b (.reg r)) = (2, 2) := by
  fin_cases b <;> cases r <;> rfl

theorem cycles_res_memHL (b : Fin 8) : cycles (.res b .memHL) = (4, 4) := by
  fin_cases b <;> rfl

theorem cycles_set_reg (b : Fin 8) : cycles (.set b (.reg r)) = (2, 2) := by
  fin_cases b <;> cases r <;> rfl

theorem cycles_set_memHL (b : Fin 8) : cycles (.set b .memHL) = (4, 4) := by
  fin_cases b <;> rfl

end

/-! ### Pairs -/

section
variable (p : Pair) (k : StackPair) (v : Word)

theorem cycles_incPair : cycles (.incPair p) = (2, 2) := by
  cases p <;> rfl

theorem cycles_decPair : cycles (.decPair p) = (2, 2) := by
  cases p <;> rfl

theorem cycles_addHL : cycles (.addHL p) = (2, 2) := by
  cases p <;> rfl

theorem cycles_ldPair : cycles (.ldPair p v) = (3, 3) := by
  cases p <;> rfl

theorem cycles_push : cycles (.push k) = (4, 4) := by
  cases k <;> rfl

theorem cycles_pop : cycles (.pop k) = (3, 3) := by
  cases k <;> rfl

end

/-! ### Transfers: taken and not taken -/

section
variable (cc : Cond) (e8 : Byte) (v : Word)

theorem cycles_jrIf : cycles (.jrIf cc e8) = (3, 2) := by
  cases cc <;> rfl

theorem cycles_jpIf : cycles (.jpIf cc v) = (4, 3) := by
  cases cc <;> rfl

theorem cycles_callIf : cycles (.callIf cc v) = (6, 3) := by
  cases cc <;> rfl

theorem cycles_retIf : cycles (.retIf cc) = (5, 2) := by
  cases cc <;> rfl

theorem cycles_rst (y : Fin 8) : cycles (.rst y) = (4, 4) := by
  fin_cases y <;> rfl

end

/-! ### Rows that are not instructions -/

theorem cycles_of_isIllegal {i : Instr} (h : i.isIllegal = true) : cycles i = (0, 0) := by
  unfold Instr.isIllegal at h
  split at h
  -- the last case is that of the rows with an instruction
  on_goal 12 => cases h
  all_goals rfl

theorem cycles_of_isPrefix {i : Instr} (h : i.isPrefix = true) : cycles i = (0, 0) := by
  unfold Instr.isPrefix at h
  split at h
  · rfl
  · cases h

theorem cycles_of_not_wf {i : Instr} (h : i.wf = false) : cycles i = (0, 0) := by
  by_cases illegal : i.isIllegal = true
  · exact cycles_of_isIllegal illegal
  · exact cycles_of_isPrefix (by simpa [Instr.wf, illegal] using h)

/-- No instruction costs more than 6 M-cycles, taken or not (10_state.md R41): row by row of the table. -/
theorem cycles_le (i : Instr) : (cycles i).1 ≤ 6 ∧ (cycles i).2 ≤ 6 := by
  cases i <;> exact ⟨Nat.le_of_ble_eq_true rfl, Nat.le_of_ble_eq_true rfl⟩

/-- Settles O60: the rows without an operand by evaluation, the others form by form. -/
theorem cycleCosts : Obligations.CycleCosts := by
  refine ⟨?_, fun r q op pad => ?_, fun r op n8 => ?_, fun p => ?_, fun n8 v p k => ?_, fun n8 v k y => ?_,
    fun v => ⟨rfl, rfl⟩, fun cc e8 v => ⟨cycles_jrIf cc e8, cycles_jpIf cc v, cycles_callIf cc v, cycles_retIf cc⟩,
    fun r op b => ?_, fun op b => ⟨cycles_bit_memHL b, ?_⟩, fun _ => cycles_of_not_wf⟩
  all_goals simp only [List.forall_mem_cons]
  · exact ⟨rfl, rfl, rfl, rfl, rfl, rfl, rfl, rfl, rfl, rfl, rfl, rfl, rfl, List.forall_mem_nil _⟩
  · exact ⟨rfl, cycles_ldReg_reg r q, cycles_inc_reg r, cycles_dec_reg r, cycles_alu_reg r op, List.forall_mem_nil _⟩
  · exact ⟨cycles_ldImm_reg r n8, cycles_aluImm n8 op, cycles_ldReg_memHL r, cycles_ldStore r, cycles_alu_memHL op,
      rfl, rfl, rfl, rfl, rfl, rfl, rfl, rfl, rfl, rfl, rfl, List.forall_mem_nil _⟩
  · exact ⟨cycles_incPair p, cycles_decPair p, cycles_addHL p, List.forall_mem_nil _⟩
  · exact ⟨rfl, rfl, rfl, rfl, rfl, cycles_ldPair p v, cycles_pop k, rfl, rfl, List.forall_mem_nil _⟩
  · exact ⟨cycles_push k, rfl, rfl, rfl, rfl, rfl, rfl, cycles_rst y, List.forall_mem_nil _⟩
  · exact ⟨cycles_rot_reg r op, cycles_bit_reg r b, cycles_res_reg r b, cycles_set_reg r b, List.forall_mem_nil _⟩
  · exact ⟨cycles_rot_memHL op, cycles_res_memHL b, cycles_set_memHL b, List.forall_mem_nil _⟩

end Sys2Proof.Machine
end

section
/-! PROOF of O55. Memory stays canonical because the bus trace accounts for it (O57); what a step does to the sleep, the
HALT bug and the latch is read off from what an instruction does to the control state (`ControlAfter`). -/

namespace Sys2Proof.Machine

open Sys2Proof.Statements

/-! ### Memory -/

/-- Replaying accesses keeps the canonical form. -/
theorem replay_keeps_wf {rs : List Region} {m m' : List Host.Cell} {as as' : List Byte} {acc : List BusAccess}
    (wf : Memory.wf m = true) (h : replay rs m as acc = some (m', as')) : Memory.wf m' = true := by
  induction acc generalizing m as with
  | nil =>
    cases h
    exact wf
  | cons x acc ih =>
    cases x with
    | read a v =>
      simp only [replay] at h
      split at h <;> (split at h; exacts [ih wf h, nomatch h])
    | write a v =>
      simp only [replay] at h
      split at h
      · exact ih (Memory.wf_write a v wf) h
      · exact ih wf h
      · exact ih wf h

theorem step_keeps_wf {s t : State} (wf : Memory.wf s.mem = true) (e : step s = .next t) :
    Memory.wf t.mem = true := by
  have begun := Memory.wf_writeAll s.input.pokes wf
  obtain ⟨g, -, rfl⟩ | ⟨noReset, -, -⟩ := step_cases e
  · exact begun
  · obtain ⟨trace, -⟩ := busTraceIsSequential s t noReset e
    exact replay_keeps_wf begun trace

/-! ### Cost -/

theorem State.complete_cost_le (s : State) (p0 : Bool) (i : Instr) : (s.complete p0 (cycles i)).cost ≤ 6 := by
  obtain ⟨taken, notTaken⟩ := cycles_le i
  rw [State.complete_cost]
  split
  · exact taken
  · exact notTaken

theorem runInstr_cost_le {s t : State} (h : s.cost ≤ 6) (e : runInstr s = .next t) : t.cost ≤ 6 := by
  obtain ⟨illegal, -⟩ | ⟨-, u, -, rfl⟩ := runInstr_cases e
  · have run := runInstr_of_mem_illegalBytes (s.fetched_isIllegal_iff.mp illegal)
    cases e.symm.trans run
    exact h
  · exact u.complete_cost_le _ _

/-- A step costs at most 6 M-cycles (70_reset_and_hazards.md R353, R354), whatever was reported before it. -/
theorem step_cost_le {s t : State} (e : step s = .next t) : t.cost ≤ 6 := by
  obtain ⟨g, -, rfl⟩ | ⟨-, -, run⟩ := step_cases e
  · exact Nat.zero_le 6
  · obtain ⟨-, rfl⟩ | ⟨-, k, -, rfl⟩ | ⟨-, -, run⟩ := stepAwake_cases run
    · exact (by decide : 1 ≤ 6)
    · exact (by decide : entryCost ≤ 6)
    · exact runInstr_cost_le (s := s.beginStep.wake) (Nat.zero_le 6) run

/-! ### Sleep and the fault latch -/

/-- What a step leaves of low power, the HALT bug and the fault latch. -/
structure State.Settled (s : State) : Prop where
  sleep_without_bug : s.lowPower = true → s.haltBug = false
  latch_sound : s.latchSound

/-- Without a fault the latch is sound. -/
theorem State.Settled.of_no_fault {s : State} (sleep : s.lowPower = true → s.haltBug = false) (h : s.fault = none) :
    s.Settled where
  sleep_without_bug := sleep
  latch_sound _ latched := absurd (h.symm.trans latched) nofun

/-- HALT sleeps or sets the HALT bug, and never both (48_system.md R263); STOP sleeps (R264); nothing else touches
either. -/
theorem ControlAfter.sleep_without_bug {i : Instr} {s : State} {c : Control} (h : ControlAfter s c i)
    (awake : s.lowPower = false) (noBug : s.haltBug = false) : c.lowPower = true → c.haltBug = false := by
  cases h with
  | kept h | di h | ei h | reti h | stop h | illegal _ _ h =>
    subst h
    exact fun _ => noBug
  | halt h =>
    subst h
    split
    · exact fun _ => noBug
    · exact fun asleep => absurd (awake.symm.trans asleep) nofun

/-- The latch takes one of the eleven bytes from PC, where it still stands unless a device answered it. -/
theorem State.settled_raiseUnknownOpcode {s : State} (awake : s.lowPower = false) (h : s.peek s.pc ∈ illegalBytes) :
    ((s.noteRead s.pc).raiseUnknownOpcode (s.peek s.pc)).Settled where
  sleep_without_bug asleep := absurd (awake.symm.trans asleep) nofun
  latch_sound u hu := by
    cases hu
    exact ⟨h, rfl, fun notDevice => (State.peek_of_ne (s := s) notDevice).symm⟩

/-- An instruction that runs in a step is one of the 500, so it latches no fault. -/
theorem runInstr_settled {s t : State} (awake : s.lowPower = false) (noFault : s.fault = none)
    (e : runInstr s = .next t) : t.Settled := by
  obtain ⟨illegal, -⟩ | ⟨legal, u, run, rfl⟩ := runInstr_cases e
  · have byte := s.fetched_isIllegal_iff.mp illegal
    cases e.symm.trans (runInstr_of_mem_illegalBytes byte)
    exact State.settled_raiseUnknownOpcode awake byte
  · have after := exec_next_controlAfter run
    obtain ⟨-, -, -, -, latches, -⟩ := after.frame
    have kept : u.fault = s.afterFetch.fault := by
      by_contra changed
      exact absurd (legal.symm.trans (latches changed)) nofun
    refine .of_no_fault ?_ ?_
    · rw [State.complete_lowPower, State.complete_haltBug]
      exact after.sleep_without_bug (s.afterFetch_lowPower.trans awake) s.afterFetch_haltBug
    · rw [State.complete_fault, kept, State.afterFetch_fault, noFault]

theorem stepAwake_settled {s t : State} (sleep : s.lowPower = true → s.haltBug = false) (noFault : s.fault = none)
    (e : stepAwake s = .next t) : t.Settled := by
  obtain ⟨-, rfl⟩ | ⟨-, k, -, rfl⟩ | ⟨-, -, run⟩ := stepAwake_cases e
  · exact .of_no_fault sleep noFault
  · exact .of_no_fault (fun _ => State.enterInterrupt_haltBug _ k) ((State.enterInterrupt_fault _ k).trans noFault)
  · exact runInstr_settled (s := s.wake) rfl noFault run

theorem step_settled {s t : State} (sleep : s.lowPower = true → s.haltBug = false) (e : step s = .next t) :
    t.Settled := by
  obtain ⟨g, -, rfl⟩ | ⟨-, noFault, run⟩ := step_cases e
  · exact .of_no_fault (fun _ => rfl) rfl
  · exact stepAwake_settled (s := s.beginStep) sleep noFault run

/-- Settles O55, clause by clause of the invariant. -/
theorem invariantKept : Obligations.InvariantKept := fun _ _ inv e =>
  have settled := step_settled inv.sleep_without_bug e
  { mem_wf := step_keeps_wf inv.mem_wf e
    sleep_without_bug := settled.sleep_without_bug
    latch_sound := settled.latch_sound
    cost_le := step_cost_le e }

end Sys2Proof.Machine
end

section
/-! PROOF of O46 and O59: reset (70_reset_and_hazards.md R340) and the clocked wrapper (R351). -/

namespace Sys2Proof.Machine

open Sys2Proof.Statements

/-- F has no storage for its low nibble (10_state.md R22, R27). -/
theorem Flags.toByte_lowNibble (f : Flags) : f.toByte &&& 0x0F = 0 := by
  obtain ⟨-, low, -⟩ := flagsByteRoundTrip f.z f.n f.h f.c
  exact low

/-- A tick with reset asserted is the reset: it costs nothing, so nothing is owed after it. -/
theorem tick_eq_resetCore (unit : Config.CycleUnit) {s : State} {g : ResetGpr} (h : s.input.reset = some g) :
    tick unit s = .next (s.beginStep.resetCore g) := by
  have owed : 0 * unit.perMachineCycle - 1 = 0 := by rw [Nat.zero_mul]
  rw [tick_of_reset unit h, step_of_reset h]
  exact congrArg (fun n => Host.Outcome.next { s.beginStep.resetCore g with cycleDebt := n }) owed

/-- Settles O46: the state after a reset is written out in the model, field by field. -/
theorem resetFromAnyState : Obligations.ResetFromAnyState :=
  ⟨fun _ g h => ⟨_, step_of_reset h, rfl, rfl, rfl, rfl, rfl, rfl, rfl, rfl, rfl, g.f.toByte_lowNibble, rfl, rfl, rfl,
    rfl, fun unit => tick_eq_resetCore unit h⟩,
    rfl, rfl, rfl, rfl, rfl, rfl, rfl, rfl, rfl⟩

/-- A step of at most 6 M-cycles, less the tick it takes, leaves a debt within the limit (10_state.md R41). -/
theorem owed_le_debtLimit (unit : Config.CycleUnit) {cost : Nat} (h : cost ≤ 6) :
    cost * unit.perMachineCycle - 1 ≤ debtLimit unit := by
  cases unit <;> simp only [Config.CycleUnit.perMachineCycle, debtLimit] <;> omega

/-- Settles O59: a tick is a step when nothing is owed, and the cost of a step bounds what it leaves owed. -/
theorem tickCountsDown : Obligations.TickCountsDown := by
  refine fun unit s hr => ⟨fun n debt => tick_of_debt unit hr debt, fun t debt run => ?_, fun t bounded e => ?_⟩
  · rw [tick_of_no_debt unit debt, run]
    cases unit <;> rfl
  · obtain ⟨-, u, run, rfl⟩ | ⟨-, -, rfl⟩ := tick_cases e
    · exact owed_le_debtLimit unit (step_cost_le run)
    · exact (Nat.sub_le _ _).trans bounded

end Sys2Proof.Machine
end

section
/-! PROOF of O47 and O48: items 1 and 2 of a step, sleeping, waking and entering an interrupt (60_exceptions.md R302,
R311 to R314). -/

namespace Sys2Proof.Machine

open Sys2Proof.Statements

theorem stepAwake_of_asleep {s : State} (h : s.asleep = true) : stepAwake s = .next s.idle :=
  if_pos h

/-- A core that a request keeps from sleeping goes on as if it had been awake (D9). -/
theorem stepAwake_wake {s : State} (h : s.asleep = false) : stepAwake s.wake = stepAwake s := by
  have awake : s.wake.asleep = false := rfl
  rw [stepAwake, stepAwake, h, awake]
  rfl

/-- An accepted request is entered (R311, R314). -/
theorem stepAwake_of_accepted {s : State} {k : Fin 5} (h : s.asleep = false) (accepted : s.wake.accepted = some k) :
    stepAwake s = .next (s.wake.enterInterrupt k) := by
  rw [stepAwake, h, accepted]
  rfl

theorem State.asleep_eq_false {s : State} (h : s.irq ≠ 0) : s.asleep = false := by
  rw [State.asleep, beq_false_of_ne h, Bool.and_false]

/-- Settles O47: an idle step keeps what the start of the step left; a woken one is a step of the woken core. -/
theorem idleAndWakeUp : Obligations.IdleAndWakeUp := by
  refine fun s hr hf low => ⟨fun quiet => ?_, fun request => ?_⟩
  · have asleep : s.beginStep.asleep = true := by simp [State.asleep, low, quiet]
    rw [step_of_unlatched hr hf, stepAwake_of_asleep asleep, ← quiet]
    rfl
  · have awake : s.beginStep.asleep = false := State.asleep_eq_false request
    have woken : step { s with lowPower := false } = stepAwake s.beginStep.wake := step_of_unlatched hr hf
    rw [step_of_unlatched hr hf, woken, stepAwake_wake awake]

/-- The request taken is the lowest line that is up (R312), for each of the 32 samples. -/
theorem lowestLine_eq {irq : BitVec 5} {k : Fin 5} (up : irq.getLsbD k.val = true)
    (lower : ∀ j < k.val, irq.getLsbD j = false) : lowestLine irq = k := by
  revert irq k
  decide

/-- Settles O48: the lowest line is accepted, asleep or awake, and entering it pushes PC. -/
theorem interruptEntry : Obligations.InterruptEntry := by
  intro s k hr hf enabled up lower
  have request : s.input.irq ≠ 0 := by
    intro quiet
    simp [quiet] at up
  have accepted : s.beginStep.wake.accepted = some k := by
    simpa [State.accepted, enabled, lowestLine_eq up lower] using request
  rw [step_of_unlatched hr hf, stepAwake_of_accepted (State.asleep_eq_false request) accepted]
  rfl

end Sys2Proof.Machine
end

section
/-! PROOF of O49 and O44: a step that runs the instruction at PC (60_exceptions.md R300, R303). -/

namespace Sys2Proof.Machine

open Sys2Proof.Statements

section
variable {i : Instr} {s t : State}

/-- Only DI and RETI write ime (48_system.md R261; 47_control_flow.md R250). -/
theorem exec_ime (e : exec i s = .next t) :
    t.ime = if i = .di then false else if i = .reti then true else s.ime := by
  obtain ⟨writes, -⟩ := controlStateFrame i s t e
  by_cases di : i = .di
  · subst i
    cases e
    rfl
  · by_cases reti : i = .reti
    · subst i
      cases e
      rfl
    · rw [if_neg di, if_neg reti]
      by_contra changed
      exact (writes changed).elim di reti

/-- Only DI and EI write the pending enable (R261, R262, D13). -/
theorem exec_pendingEnable (e : exec i s = .next t) :
    t.pendingEnable = if i = .di then false else if i = .ei then true else s.pendingEnable := by
  obtain ⟨-, writes, -⟩ := controlStateFrame i s t e
  by_cases di : i = .di
  · subst i
    cases e
    rfl
  · by_cases ei : i = .ei
    · subst i
      cases e
      rfl
    · rw [if_neg di, if_neg ei]
      by_contra changed
      exact (writes changed).elim di ei

end

/-- A step that decodes at PC and does not fault executes the instruction fetched, and then completes. -/
theorem exec_of_step {s t : State} (decodes : decodesAtPC s) (e : step s = .next t) (noFault : t.fault = none) :
    ∃ u, exec (ready s).fetched (ready s).afterFetch = .next u ∧
      t = u.complete s.pendingEnable (cycles (ready s).fetched) := by
  rw [step_of_decodesAtPC decodes] at e
  obtain ⟨illegal, -⟩ | ⟨-, run⟩ := runInstr_cases e
  · have latched := runInstr_of_mem_illegalBytes ((ready s).fetched_isIllegal_iff.mp illegal)
    cases e.symm.trans latched
    cases noFault
  · exact run

/-- Settles O49: what the instruction leaves of ime and the pending enable, and then the promotion. -/
theorem enableLatency : Obligations.EnableLatency := by
  intro s t decodes e noFault i
  obtain ⟨u, run, rfl⟩ := exec_of_step decodes e noFault
  have ime : u.ime = if i = .di then false else if i = .reti then true else s.ime :=
    (exec_ime run).trans (by rw [State.afterFetch_ime]; rfl)
  have pending : u.pendingEnable = if i = .di then false else if i = .ei then true else s.pendingEnable :=
    (exec_pendingEnable run).trans (by rw [State.afterFetch_pendingEnable]; rfl)
  rw [State.complete_ime, State.complete_pendingEnable, ime, pending]
  refine ⟨fun p0 => ?_, fun p0 => ?_⟩
  · by_cases di : i = .di <;> simp [di, p0]
  · by_cases di : i = .di <;> simp [di, p0]

/-- Reads leave the HALT-bug bit alone. -/
theorem afterReads_haltBug (addrs : List Word) (s : State) : (afterReads addrs s).haltBug = s.haltBug := by
  induction addrs generalizing s with
  | nil => rfl
  | cons a addrs ih => exact ih (s.noteRead a)

/-- Settles O44: without the HALT bug the byte after the opcode is the one at PC + 1. -/
theorem stepRunsDecoded : Obligations.StepRunsDecoded := by
  intro s i rest decodes noBug at3 h wf
  have cursor : (ready s).cursor = s.pc + 1 := if_neg (by simp [ready, noBug])
  have addrs : (ready s).fetchAddrs = at3 := by
    rw [State.fetchAddrs, cursor, BitVec.add_assoc]
    rfl
  obtain ⟨-, length⟩ := State.decode_fetchAddrs (addrs ▸ h)
  have past : s.pc + 1 + BitVec.ofNat 16 (2 - rest.length) = s.pc + BitVec.ofNat 16 (3 - rest.length) := by
    rw [show 3 - rest.length = 1 + (2 - rest.length) by omega, BitVec.ofNat_add, ← BitVec.add_assoc]
    rfl
  have bit : (afterReads (at3.take (3 - rest.length)) (ready s)).haltBug = false :=
    (afterReads_haltBug _ _).trans noBug
  rw [step_of_decodesAtPC decodes, runInstr_of_decode (addrs ▸ h) wf, addrs, cursor, past, ← bit]
  rfl

end Sys2Proof.Machine
end

section
/-! PROOF of O37 to O40: the control transfers (47_control_flow.md). A conditional transfer is the transfer or the
report that none was taken (`transfersIf_of_exec_when`), so each family comes down to its unconditional form. -/

namespace Sys2Proof

/-! ### Encodings (30_encoding.md R103, R106) -/

theorem encode_jpIf (cc : Cond) (n16 : Word) :
    encode (.jpIf cc n16) = [0xC2 + 8 * cc.code, n16.extractLsb' 0 8, n16.extractLsb' 8 8] := by
  cases cc <;> rfl

theorem encode_jrIf (cc : Cond) (e8 : Byte) : encode (.jrIf cc e8) = [0x20 + 8 * cc.code, e8] := by
  cases cc <;> rfl

theorem encode_callIf (cc : Cond) (n16 : Word) :
    encode (.callIf cc n16) = [0xC4 + 8 * cc.code, n16.extractLsb' 0 8, n16.extractLsb' 8 8] := by
  cases cc <;> rfl

theorem encode_retIf (cc : Cond) : encode (.retIf cc) = [0xC0 + 8 * cc.code] := by
  cases cc <;> rfl

theorem encode_rst (y : Fin 8) : encode (.rst y) = [0xC7 + 8 * BitVec.ofNat 8 y.val] := by
  fin_cases y <;> rfl

end Sys2Proof

namespace Sys2Proof.Machine

open Sys2Proof.Statements

/-! ### The transfers, from a state `s` -/

/-- A conditional transfer is taken exactly when its condition holds (R240, R252). -/
theorem transfersIf_of_exec_when {i : Instr} {cc : Cond} {s t : State} {transfer : State → State}
    (meaning : exec i s = .next (s.when cc transfer)) (taken : transfer s = { t with taken := true }) :
    transfersIf i cc s t := by
  refine ⟨fun met => ?_, fun unmet => ?_⟩
  · rw [meaning, State.when_pos transfer ((s.cond_iff_holds cc).mpr met), taken]
  · have cond : s.cond cc = false := Bool.eq_false_iff.mpr fun h => unmet ((s.cond_iff_holds cc).mp h)
    rw [meaning, State.when_neg transfer cond]

section
variable (s : State)

/-- JR counts from the address after the instruction, modulo 2^16 (R244, D25). -/
theorem State.jumpRel_eq (e8 : Byte) :
    s.jumpRel e8 = { s with pc := BitVec.ofInt 16 (s.pc.toNat + e8.toInt), taken := true } := by
  rw [State.jumpRel, add_sext, State.jump]

/-- CALL pushes the address after the instruction (R246). -/
theorem State.call_eq (target : Word) :
    s.call target = { pushed s s.pc with pc := target, taken := true } := rfl

/-- RST is a call of 8 times its number (R251). -/
theorem State.restart_eq (y : Fin 8) :
    s.restart y = { pushed s s.pc with pc := BitVec.ofNat 16 (8 * y.val), taken := true } := by
  rw [BitVec.ofNat_mul]
  exact s.call_eq _

/-- RET pops PC (R248). -/
theorem State.returnToCaller_eq :
    s.returnToCaller = { afterPop s with pc := poppedWord s, taken := true } := rfl

end

/-! ### The instructions -/

/-- Settles O37: JP writes PC, JP cc when its condition holds. -/
theorem absoluteJumps : Obligations.AbsoluteJumps :=
  ⟨rfl, fun s a16 => ⟨rfl, rfl, rfl, fun cc =>
    ⟨encode_jpIf cc a16, transfersIf_of_exec_when (exec_jpIf cc a16 s) rfl⟩⟩⟩

/-- Settles O38: the offset added as a word is the signed offset added modulo 2^16. -/
theorem relativeJumps : Obligations.RelativeJumps := fun s e8 =>
  ⟨rfl, congrArg Host.Outcome.next (s.jumpRel_eq e8), fun cc =>
    ⟨encode_jrIf cc e8, transfersIf_of_exec_when (exec_jrIf cc e8 s) (s.jumpRel_eq e8)⟩⟩

/-- Settles O39: CALL and RST push and jump, CALL cc when its condition holds. -/
theorem callsAndRestarts : Obligations.CallsAndRestarts := fun s a16 =>
  ⟨rfl, congrArg Host.Outcome.next (s.call_eq a16),
    fun cc => ⟨encode_callIf cc a16, transfersIf_of_exec_when (exec_callIf cc a16 s) (s.call_eq a16)⟩,
    fun y => ⟨encode_rst y, (exec_rst y s).trans (congrArg Host.Outcome.next (s.restart_eq y))⟩⟩

/-- Settles O40: RET pops PC, RETI from the state with ime set, RET cc when its condition holds. -/
theorem returns : Obligations.Returns :=
  ⟨rfl, rfl, fun s => ⟨congrArg Host.Outcome.next s.returnToCaller_eq,
    congrArg Host.Outcome.next (State.returnToCaller_eq { s with ime := true }),
    fun cc => ⟨encode_retIf cc, transfersIf_of_exec_when (exec_retIf cc s) s.returnToCaller_eq⟩⟩⟩

end Sys2Proof.Machine
end

section
/-! PROOF of O41: the system instructions (48_system.md). -/

namespace Sys2Proof.Machine

section
variable {s : State}

/-- HALT sleeps when ime is set or no line is up (R263). -/
theorem exec_halt_sleeps (h : s.ime = true ∨ s.irq = 0) : exec .halt s = .next { s with lowPower := true } :=
  congrArg Host.Outcome.next (if_pos (by simpa using h))

/-- With ime clear and a line up it sets the HALT bug instead (R263, D12). -/
theorem exec_halt_bug (disabled : s.ime = false) (request : s.irq ≠ 0) :
    exec .halt s = .next { s with haltBug := true } :=
  congrArg Host.Outcome.next (if_neg (by simpa [disabled] using request))

end

/-- Settles O41: HALT by its cases, the others by their meanings. -/
theorem systemInstructions : Obligations.SystemInstructions :=
  ⟨rfl, rfl, rfl, rfl, fun _ _ => ⟨rfl, rfl, rfl, rfl, rfl, fun enabled => exec_halt_sleeps (.inl enabled),
    fun _ quiet => exec_halt_sleeps (.inr quiet), exec_halt_bug⟩⟩

end Sys2Proof.Machine
end

section
/-! PROOF of O30 to O36: the loads, PUSH and POP (49_loads.md). -/

namespace Sys2Proof

/-! ### Encodings (30_encoding.md R103, R104, R106) -/

theorem encode_ldReg (r : Reg8) (o : Operand8) : encode (.ldReg r o) = [0x40 + 8 * r.code + o.code] := by
  cases r <;> (cases o with | memHL => rfl | reg q => cases q <;> rfl)

theorem encode_ldStore (r : Reg8) : encode (.ldStore r) = [0x70 + r.code] := by
  cases r <;> rfl

theorem encode_ldImm_reg (r : Reg8) (n8 : Byte) : encode (.ldImm (.reg r) n8) = [0x06 + 8 * r.code, n8] := by
  cases r <;> rfl

theorem encode_ldPair (p : Pair) (n16 : Word) :
    encode (.ldPair p n16) = [0x01 + 16 * p.code, n16.extractLsb' 0 8, n16.extractLsb' 8 8] := by
  cases p <;> rfl

theorem encode_push (p : StackPair) : encode (.push p) = [0xC5 + 16 * p.code] := by
  cases p <;> rfl

theorem encode_pop (p : StackPair) : encode (.pop p) = [0xC1 + 16 * p.code] := by
  cases p <;> rfl

end Sys2Proof

namespace Sys2Proof.Machine

open Sys2Proof.Statements

/-! ### Bytes and words to and from memory -/

/-- Settles O30, form by form. -/
theorem loadsOfByteOperands : Obligations.LoadsOfByteOperands :=
  ⟨fun s r o => ⟨encode_ldReg r o, exec_ldReg r o s⟩, fun s r => ⟨encode_ldStore r, exec_ldStore r s⟩,
    fun s r n8 => ⟨encode_ldImm_reg r n8, exec_ldImm (.reg r) n8 s⟩, fun s n8 => ⟨rfl, exec_ldImm .memHL n8 s⟩⟩

/-- Settles O31: the model's pairs are the two registers joined. -/
theorem accumulatorThroughPointer : Obligations.AccumulatorThroughPointer :=
  ⟨rfl, rfl, rfl, rfl, fun _ _ => ⟨rfl, rfl, rfl, rfl, rfl, rfl, rfl, rfl⟩⟩

/-- Adding a byte to the base of the high page never carries (R281). -/
theorem highPageAddr_eq (a8 : Byte) : highPageAddr a8 = 0xFF00 + a8.setWidth 16 := by
  apply BitVec.eq_of_toNat_eq
  rw [highPageAddr, toNat_join, Config.highPage]
  bv_omega

/-- Settles O32: the high page joined to a byte is that byte above 0xFF00. -/
theorem highPageLoads : Obligations.HighPageLoads := by
  refine ⟨rfl, rfl, fun s a8 => ?_⟩
  rw [← highPageAddr_eq, ← highPageAddr_eq]
  exact ⟨rfl, rfl, rfl, rfl, rfl, rfl⟩

/-- Settles O33: the access is made at the old HL, and then its halves are written. -/
theorem loadsThroughMovingHl : Obligations.LoadsThroughMovingHl :=
  ⟨rfl, rfl, rfl, rfl, fun _ => ⟨rfl, rfl, rfl, rfl⟩⟩

/-- Settles O34: a pair takes the two halves of the word, and memory the two halves of SP. -/
theorem wordLoads : Obligations.WordLoads :=
  ⟨rfl, fun s v => ⟨fun p => encode_ldPair p v, rfl, exec_ldPair .bc v s, exec_ldPair .de v s, exec_ldPair .hl v s,
    exec_ldPair .sp v s, rfl, rfl⟩⟩

/-! ### The stack -/

/-- Settles O35: PUSH and POP of a pair are those of its word. -/
theorem pushAndPopPairs : Obligations.PushAndPopPairs := fun s =>
  ⟨fun p => ⟨encode_push p, encode_pop p⟩, exec_push .bc s, exec_push .de s, exec_push .hl s, exec_push .af s,
    exec_pop .bc s, exec_pop .de s, exec_pop .hl s⟩

/-- The byte at SP is the low half of the word popped, and the one after it the high half (20_memory.md R65). -/
theorem State.lo_popVal (s : State) : lo s.popVal = s.peek s.sp :=
  low_of_word _ _

theorem State.hi_popVal (s : State) : hi s.popVal = (s.noteRead s.sp).peek (s.sp + 1) :=
  high_of_word _ _

/-- Settles O36: A and F take the halves of the word popped, of which F keeps bits 7 to 4. -/
theorem popAfLoadsFlags : Obligations.PopAfLoadsFlags := by
  refine fun s => ⟨rfl, ?_, Flags.toByte_ofByte _⟩
  rw [exec_pop, State.popPair, State.setStackPair, State.setAF, s.lo_popVal, s.hi_popVal]
  rfl

end Sys2Proof.Machine
end

section
/-! PROOF of O51. The instructions whose rule names no flag are composed of operations that keep F; the others that keep
one flag copy it (10_state.md R28; 49_loads.md R295). -/

namespace Sys2Proof.Machine

open Sys2Proof.Statements

section
variable (s : State)

/-! ### Operations that keep F -/

theorem State.touch_put_f (o : Operand8) (v : Byte) : ((s.touch o).put o v).f = s.f :=
  ((s.touch o).put_f o v).trans (s.touch_f o)

theorem State.setStackPair_f {p : StackPair} (h : p ≠ .af) (v : Word) : (s.setStackPair p v).f = s.f := by
  cases p with
  | af => exact absurd rfl h
  | bc | de | hl => rfl

theorem State.call_f (target : Word) : (s.call target).f = s.f := by
  simp [State.call, State.jump]

theorem State.returnToCaller_f : s.returnToCaller.f = s.f := by
  simp [State.returnToCaller]

end

/-- The meaning of an ILLEGAL row is the latching of some byte (48_system.md R266). -/
theorem exec_of_isIllegal {i : Instr} (h : i.isIllegal = true) (s : State) :
    ∃ byte, exec i s = .next (s.raiseUnknownOpcode byte) := by
  unfold Instr.isIllegal at h
  split at h
  -- the last case is that of the rows with an instruction
  on_goal 12 => cases h
  all_goals exact ⟨_, rfl⟩

/-! ### Instructions -/

/-- The instructions of `LeavesFlags` answer a next state with the flags they started with. -/
theorem exec_keeps_flags {i : Instr} (h : LeavesFlags i) (s : State) : ∃ t, exec i s = .next t ∧ t.f = s.f := by
  cases h with
  | ldReg r o => exact ⟨_, exec_ldReg r o s, ((s.touch o).setReg_f r _).trans (s.touch_f o)⟩
  | ldImm o n8 => exact ⟨_, exec_ldImm o n8 s, s.put_f o n8⟩
  | ldStore r => exact ⟨_, exec_ldStore r s, rfl⟩
  | ldPair p n16 => exact ⟨_, exec_ldPair p n16 s, s.setPair_f p n16⟩
  | push p => exact ⟨_, exec_push p s, rfl⟩
  | pop p notAf => exact ⟨_, exec_pop p s, s.popped.setStackPair_f notAf _⟩
  | incPair p => exact ⟨_, exec_incPair p s, s.setPair_f p _⟩
  | decPair p => exact ⟨_, exec_decPair p s, s.setPair_f p _⟩
  | res b o => exact ⟨_, exec_res b o s, s.touch_put_f o _⟩
  | set b o => exact ⟨_, exec_set b o s, s.touch_put_f o _⟩
  | jpIf cc a16 => exact ⟨_, exec_jpIf cc a16 s, s.when_keeps cc State.f rfl rfl⟩
  | jrIf cc e8 => exact ⟨_, exec_jrIf cc e8 s, s.when_keeps cc State.f rfl rfl⟩
  | callIf cc a16 => exact ⟨_, exec_callIf cc a16 s, s.when_keeps cc State.f (s.call_f a16) rfl⟩
  | retIf cc => exact ⟨_, exec_retIf cc s, s.when_keeps cc State.f s.returnToCaller_f rfl⟩
  | rst y => exact ⟨_, exec_rst y s, s.call_f _⟩
  | call_a16 a16 => exact ⟨_, rfl, s.call_f a16⟩
  | ret => exact ⟨_, rfl, s.returnToCaller_f⟩
  | reti => exact ⟨_, rfl, State.returnToCaller_f { s with ime := true }⟩
  | halt =>
    refine ⟨_, rfl, ?_⟩
    split <;> rfl
  | illegal i isIllegal =>
    obtain ⟨byte, run⟩ := exec_of_isIllegal isIllegal s
    exact ⟨_, run, rfl⟩
  | _ => exact ⟨_, rfl, rfl⟩

section
variable {i : Instr} {s t : State} (e : exec i s = .next t)
include e

/-- 8-bit INC and DEC, BIT and CPL copy C (R175, R177, R220, R231). -/
theorem exec_keeps_c (h : (∃ o, i = .inc o) ∨ (∃ o, i = .dec o) ∨ (∃ b o, i = .bit b o) ∨ i = .cpl) :
    t.f.c = s.f.c := by
  obtain ⟨o, rfl⟩ | ⟨o, rfl⟩ | ⟨b, o, rfl⟩ | rfl := h
  · cases exec_next_unique e (exec_inc o s)
    rfl
  · cases exec_next_unique e (exec_dec o s)
    rfl
  · cases exec_next_unique e (exec_bit b o s)
    rfl
  · cases e
    rfl

/-- ADD HL, CPL, SCF and CCF copy Z (R151, R231 to R233). -/
theorem exec_keeps_z (h : (∃ p, i = .addHL p) ∨ i = .cpl ∨ i = .scf ∨ i = .ccf) : t.f.z = s.f.z := by
  obtain ⟨p, rfl⟩ | rfl | rfl | rfl := h
  · cases exec_next_unique e (exec_addHL p s)
    rfl
  all_goals
    cases e
    rfl

/-- DAA copies N (R230). -/
theorem exec_keeps_n (h : i = .daa) : t.f.n = s.f.n := by
  subst h
  cases e
  rfl

end

/-- Settles O51, flag by flag. -/
theorem flagsFrame : Obligations.FlagsFrame := by
  refine fun i s t e => ⟨fun leaves => ?_, exec_keeps_c e, exec_keeps_z e, exec_keeps_n e⟩
  obtain ⟨u, run, kept⟩ := exec_keeps_flags leaves s
  exact (congrArg State.f (exec_next_unique e run)).trans kept

end Sys2Proof.Machine
end
